-- ==== Sys2Proof/Word.lean ====
section
/-!
DEFINITION. The value types of the CORE (`10_state.md` rules R20 to R23, `00_scope.md` rule R9).
-/

namespace Sys2Proof

/-- A byte, bit 7 the most significant (R9). -/
abbrev Byte := BitVec 8

/-- A V128 value: a Key (R20), a Block (R21) or a round key (R22). Byte `b[i]` occupies
`bits[8i+7:8i]` of the 128-bit port or register (R9); the byte accessors are in `Machine/Bytes.lean`. -/
abbrev V128 := BitVec 128

/-- A Sched: eleven V128, `k[0] .. k[10]` (R9, R22: "exactly 11 entries regardless of key value"). -/
abbrev Sched := Vector V128 11

/-- The index of an entry of a schedule or of a round-key file, `0 .. 10` (R22, R57). -/
abbrev Entry := Fin 11

end Sys2Proof
end

