-- ==== Sys2Proof/Machine/Bytes.lean ====
section
/-!
DEFINITION. Byte order and packing: which bits a byte of a V128 occupies, which bits an entry of a
schedule occupies on a 1408-bit port, and how a hex literal is read (`00_scope.md` rule R9,
`20_memory.md` rule R55, `30_encoding.md` rules R72, R73, R79).
-/

namespace Sys2Proof.Machine

/-- `n` lanes of `w` bits each, lane `i` at `bits[w*i+w-1 : w*i]` of an `m`-bit value. -/
def joinLanes (w m : Nat) (lane : Nat → BitVec w) : Nat → BitVec m
  | 0 => 0
  | k + 1 => joinLanes w m lane k ||| ((lane k).setWidth m <<< (w * k))

/-- `x.b[i]`, at `bits[8i+7 : 8i]` (R9). -/
def byte (x : V128) (i : Nat) : Byte := x.extractLsb' (8 * i) 8

/-- The V128 whose byte `i` is `f i`, for `i` in `0..15` (R9). -/
def ofBytes (f : Nat → Byte) : V128 := joinLanes 8 128 f 16

/-- A V128 literal as the spec writes it: 32 hex digits, `b[0]` the leftmost pair (R9, R79). -/
def hex (x : Nat) : V128 := ofBytes fun i => BitVec.ofNat 8 (x >>> (8 * (15 - i)))

/-- Entry `r` of a schedule; outside `0..10` there is none, and the total function gives zero, which no
rule reads (R57). -/
def entry (k : Sched) (r : Nat) : V128 := if h : r < 11 then k[r] else 0

/-- Entry `k[r]` of a schedule port, at `bits[128r+127 : 128r]` (R72). -/
def schedLane (x : BitVec 1408) (r : Nat) : V128 := x.extractLsb' (128 * r) 128

/-- A schedule as it lies on a 1408-bit port (R72, R73). -/
def packSched (k : Sched) : BitVec 1408 := joinLanes 128 1408 (entry k) 11

/-- The schedule a 1408-bit port carries (R72, R73). -/
def unpackSched (x : BitVec 1408) : Sched :=
  #v[schedLane x 0, schedLane x 1, schedLane x 2, schedLane x 3, schedLane x 4, schedLane x 5,
     schedLane x 6, schedLane x 7, schedLane x 8, schedLane x 9, schedLane x 10]

end Sys2Proof.Machine
end

