-- ==== Sys2Proof/Machine/Aes.lean ====
section
/-!
DEFINITION. The datapath: the micro-operations as pure, total functions on V128 values
(`40_aes_primitives.md` rules R100 to R113). One definition of each, used by KSE and by both engines
(`41_key_schedule.md` rule R138, `43_engine_native.md` rule R172).
-/

namespace Sys2Proof.Machine

/-! ## Arithmetic in GF(2^8), polynomial `0x11B` (R102) -/

/-- Multiplication by `x` (R102). -/
def xtime (a : Byte) : Byte := (a <<< 1) ^^^ (if a.getLsbD 7 then 0x1b#8 else 0x00#8)

/-- The first `i` rounds of shift-and-add: the sum of the `a * x^j` with bit `j` of `b` set (R102). -/
def gmulLoop (a b : Byte) : Nat → Byte × Byte
  | 0 => (0, a)
  | i + 1 =>
    let (r, a') := gmulLoop a b i
    (if b.getLsbD i then r ^^^ a' else r, xtime a')

/-- General multiplication, shift-and-add over the eight bits of `b` (R102). -/
def gmul (a b : Byte) : Byte := (gmulLoop a b 8).1

/-- The multipliers the CORE needs (R102). -/
def m2 (a : Byte) : Byte := xtime a
def m3 (a : Byte) : Byte := xtime a ^^^ a
def m9 (a : Byte) : Byte := xtime (xtime (xtime a)) ^^^ a
def m11 (a : Byte) : Byte := m9 a ^^^ xtime a
def m13 (a : Byte) : Byte := m9 a ^^^ xtime (xtime a)
def m14 (a : Byte) : Byte := xtime a ^^^ xtime (xtime a) ^^^ xtime (xtime (xtime a))

/-! ## The S-box (R103) -/

/-- The affine step of the S-box formula (R103). -/
def sboxAffine (x : Byte) : Byte :=
  x ^^^ x.rotateLeft 1 ^^^ x.rotateLeft 2 ^^^ x.rotateLeft 3 ^^^ x.rotateLeft 4 ^^^ 0x63#8

/-- Rows `0x` to `3x` of the table of R103. -/
def sboxRows0 : List (List Byte) :=
  [[0x63, 0x7c, 0x77, 0x7b, 0xf2, 0x6b, 0x6f, 0xc5, 0x30, 0x01, 0x67, 0x2b, 0xfe, 0xd7, 0xab, 0x76],
   [0xca, 0x82, 0xc9, 0x7d, 0xfa, 0x59, 0x47, 0xf0, 0xad, 0xd4, 0xa2, 0xaf, 0x9c, 0xa4, 0x72, 0xc0],
   [0xb7, 0xfd, 0x93, 0x26, 0x36, 0x3f, 0xf7, 0xcc, 0x34, 0xa5, 0xe5, 0xf1, 0x71, 0xd8, 0x31, 0x15],
   [0x04, 0xc7, 0x23, 0xc3, 0x18, 0x96, 0x05, 0x9a, 0x07, 0x12, 0x80, 0xe2, 0xeb, 0x27, 0xb2, 0x75]]

/-- Rows `4x` to `7x` of the table of R103. -/
def sboxRows4 : List (List Byte) :=
  [[0x09, 0x83, 0x2c, 0x1a, 0x1b, 0x6e, 0x5a, 0xa0, 0x52, 0x3b, 0xd6, 0xb3, 0x29, 0xe3, 0x2f, 0x84],
   [0x53, 0xd1, 0x00, 0xed, 0x20, 0xfc, 0xb1, 0x5b, 0x6a, 0xcb, 0xbe, 0x39, 0x4a, 0x4c, 0x58, 0xcf],
   [0xd0, 0xef, 0xaa, 0xfb, 0x43, 0x4d, 0x33, 0x85, 0x45, 0xf9, 0x02, 0x7f, 0x50, 0x3c, 0x9f, 0xa8],
   [0x51, 0xa3, 0x40, 0x8f, 0x92, 0x9d, 0x38, 0xf5, 0xbc, 0xb6, 0xda, 0x21, 0x10, 0xff, 0xf3, 0xd2]]

/-- Rows `8x` to `Bx` of the table of R103. -/
def sboxRows8 : List (List Byte) :=
  [[0xcd, 0x0c, 0x13, 0xec, 0x5f, 0x97, 0x44, 0x17, 0xc4, 0xa7, 0x7e, 0x3d, 0x64, 0x5d, 0x19, 0x73],
   [0x60, 0x81, 0x4f, 0xdc, 0x22, 0x2a, 0x90, 0x88, 0x46, 0xee, 0xb8, 0x14, 0xde, 0x5e, 0x0b, 0xdb],
   [0xe0, 0x32, 0x3a, 0x0a, 0x49, 0x06, 0x24, 0x5c, 0xc2, 0xd3, 0xac, 0x62, 0x91, 0x95, 0xe4, 0x79],
   [0xe7, 0xc8, 0x37, 0x6d, 0x8d, 0xd5, 0x4e, 0xa9, 0x6c, 0x56, 0xf4, 0xea, 0x65, 0x7a, 0xae, 0x08]]

/-- Rows `Cx` to `Fx` of the table of R103. -/
def sboxRowsC : List (List Byte) :=
  [[0xba, 0x78, 0x25, 0x2e, 0x1c, 0xa6, 0xb4, 0xc6, 0xe8, 0xdd, 0x74, 0x1f, 0x4b, 0xbd, 0x8b, 0x8a],
   [0x70, 0x3e, 0xb5, 0x66, 0x48, 0x03, 0xf6, 0x0e, 0x61, 0x35, 0x57, 0xb9, 0x86, 0xc1, 0x1d, 0x9e],
   [0xe1, 0xf8, 0x98, 0x11, 0x69, 0xd9, 0x8e, 0x94, 0x9b, 0x1e, 0x87, 0xe9, 0xce, 0x55, 0x28, 0xdf],
   [0x8c, 0xa1, 0x89, 0x0d, 0xbf, 0xe6, 0x42, 0x68, 0x41, 0x99, 0x2d, 0x0f, 0xb0, 0x54, 0xbb, 0x16]]

/-- The S-box table, row = high hex digit of the input, column = low (R103). -/
def sboxRows : List (List Byte) := sboxRows0 ++ sboxRows4 ++ sboxRows8 ++ sboxRowsC

/-- `SBOX : byte -> byte`, by the table of R103. -/
def sbox (a : Byte) : Byte := (sboxRows.getD (a.toNat / 16) []).getD (a.toNat % 16) 0

/-! ## The four round steps -/

/-- XOR128 (R108). -/
def xor128 (a b : V128) : V128 := a ^^^ b

/-- SUBBYTES (R104). -/
def subBytes (s : V128) : V128 := ofBytes fun i => sbox (byte s i)

/-- SHIFTROWS: `out.b[r + 4c] = s.b[r + 4*((c + r) mod 4)]` (R105). -/
def shiftRows (s : V128) : V128 := ofBytes fun i => byte s (i % 4 + 4 * ((i / 4 + i % 4) % 4))

/-- One byte of a mixed column: row `row` of MIXCOLUMNS on `(a0, a1, a2, a3)` (R106). -/
def mixByte (a0 a1 a2 a3 : Byte) (row : Nat) : Byte :=
  match row with
  | 0 => m2 a0 ^^^ m3 a1 ^^^ a2 ^^^ a3
  | 1 => a0 ^^^ m2 a1 ^^^ m3 a2 ^^^ a3
  | 2 => a0 ^^^ a1 ^^^ m2 a2 ^^^ m3 a3
  | _ => m3 a0 ^^^ a1 ^^^ a2 ^^^ m2 a3

/-- One byte of an inverse-mixed column: row `row` of INVMIXCOLUMNS on `(a0, a1, a2, a3)` (R107). -/
def invMixByte (a0 a1 a2 a3 : Byte) (row : Nat) : Byte :=
  match row with
  | 0 => m14 a0 ^^^ m11 a1 ^^^ m13 a2 ^^^ m9 a3
  | 1 => m9 a0 ^^^ m14 a1 ^^^ m11 a2 ^^^ m13 a3
  | 2 => m13 a0 ^^^ m9 a1 ^^^ m14 a2 ^^^ m11 a3
  | _ => m11 a0 ^^^ m13 a1 ^^^ m9 a2 ^^^ m14 a3

/-- Apply a column function to each of the four columns `b[4c] .. b[4c+3]` (R101). -/
def onColumns (f : Byte → Byte → Byte → Byte → Nat → Byte) (s : V128) : V128 :=
  ofBytes fun i =>
    f (byte s (4 * (i / 4))) (byte s (4 * (i / 4) + 1)) (byte s (4 * (i / 4) + 2))
      (byte s (4 * (i / 4) + 3)) (i % 4)

/-- MIXCOLUMNS (R106). -/
def mixColumns (s : V128) : V128 := onColumns mixByte s

/-- INVMIXCOLUMNS (R107). -/
def invMixColumns (s : V128) : V128 := onColumns invMixByte s

/-! ## The two round micro-operations -/

/-- ROUND (R109). -/
def aesRound (s k : V128) : V128 := xor128 (mixColumns (shiftRows (subBytes s))) k

/-- FINALROUND (R110). -/
def aesFinalRound (s k : V128) : V128 := xor128 (shiftRows (subBytes s)) k

/-! ## The key-schedule micro-operations -/

/-- The ten round constants (R112). -/
def rconTable : List Byte := [0x01, 0x02, 0x04, 0x08, 0x10, 0x20, 0x40, 0x80, 0x1b, 0x36]

/-- `RCON(r)`, `r` in `1..10`. "`RCON(0)` is not defined and never used" (R112), and no constant is
given beyond 10. -/
def rcon : Nat → Option Byte
  | 0 => none
  | r + 1 => rconTable[r]?

/-- Byte `j` of the word `t` of KEYSTEP: the last word of `p` rotated left by one byte, substituted, and
`rc` XORed into its first byte (R113). -/
def keyWord (p : V128) (rc : Byte) (j : Nat) : Byte :=
  match j with
  | 0 => sbox (byte p 13) ^^^ rc
  | 1 => sbox (byte p 14)
  | 2 => sbox (byte p 15)
  | _ => sbox (byte p 12)

/-- Byte `j` of word `c` of the XOR cascade: `q.w[0] = p.w[0] ^ t` and `q.w[c+1] = p.w[c+1] ^ q.w[c]`
(R113). -/
def cascadeByte (p : V128) (rc : Byte) (j : Nat) : Nat → Byte
  | 0 => byte p j ^^^ keyWord p rc j
  | c + 1 => byte p (4 * (c + 1) + j) ^^^ cascadeByte p rc j c

/-- KEYSTEP with round constant `rc` (R113). -/
def keyStep (p : V128) (rc : Byte) : V128 := ofBytes fun i => cascadeByte p rc (i % 4) (i / 4)

end Sys2Proof.Machine
end

