-- ==== Sys2Proof/Machine/Contract.lean ====
section
/-!
DEFINITION. The functions the spec's contracts name, as functions: EXPAND (`41_key_schedule.md` rule
R131), the shared CHAIN (`42_engine_accelerated.md` rule R152), the native path's pseudocode
(`43_engine_native.md` rule R171) and the oracle over any pair of engines (`44_equivalence_oracle.md`
rules R191, R194). The machine does not call them: its operations run the step tables. Claims compare
the two.
-/

namespace Sys2Proof.Machine

/-! ## EXPAND (R131) -/

/-- `ek[r]`, `r` in `0..10`: `ek[0]` is the key and `ek[r]` is KEYSTEP of `ek[r-1]` (R131, R132). Beyond
index 10 there is no entry and no round constant, and the function stays where it is. -/
def ekOf (key : V128) : Nat → V128
  | 0 => key
  | r + 1 =>
    match rcon (r + 1) with
    | some rc => keyStep (ekOf key r) rc
    | none => ekOf key r

/-- `dk[r]`: the key at index 0, `ek[10]` at index 10, INVMIXCOLUMNS of `ek[r]` in between (R133). -/
def dkOf (key : V128) (r : Nat) : V128 :=
  if r = 0 then key
  else if r ≤ 9 then invMixColumns (ekOf key r)
  else ekOf key 10

/-- The eleven entries of a schedule given by a function of the index. -/
def schedOf (f : Nat → V128) : Sched := #v[f 0, f 1, f 2, f 3, f 4, f 5, f 6, f 7, f 8, f 9, f 10]

/-- The encryption schedule of a key (R132). -/
def expandEk (key : V128) : Sched := schedOf (ekOf key)

/-- The decryption schedule of a key (R133). -/
def expandDk (key : V128) : Sched := schedOf (dkOf key)

/-! ## CHAIN (R152) -/

/-- The state of one iteration after the whitening and the rounds `1..r` (R152 steps a and b). -/
def encRounds (k : Sched) (s : V128) : Nat → V128
  | 0 => xor128 s (entry k 0)
  | r + 1 => aesRound (encRounds k s r) (entry k (r + 1))

/-- `ENC(k, s)`, one iteration (R152). -/
def enc (k : Sched) (s : V128) : V128 := aesFinalRound (encRounds k s 9) (entry k 10)

/-- `CHAIN(k, b, n)`: `CHAIN(k, b, 0) = b`, `CHAIN(k, b, n+1) = ENC(k, CHAIN(k, b, n))` (R152). -/
def chain (k : Sched) (b : V128) : Nat → V128
  | 0 => b
  | n + 1 => enc k (chain k b n)

/-! ## The native path's pseudocode (R171), written independently of CHAIN (R172) -/

/-- The combined key `V[10]` (R170 fact 3). -/
def combinedKey (k : Sched) : V128 := xor128 (entry k 10) (entry k 0)

/-- The nine unrolled rounds of one pass on the pre-whitened state (R171). -/
def nativeRounds (k : Sched) (v : V128) : V128 :=
  aesRound (aesRound (aesRound (aesRound (aesRound (aesRound (aesRound (aesRound (aesRound v
    (entry k 1)) (entry k 2)) (entry k 3)) (entry k 4)) (entry k 5)) (entry k 6)) (entry k 7))
    (entry k 8)) (entry k 9)

/-- `C` passes of the counted branch (R171). -/
def nativeLoop (k : Sched) : Nat → V128 → V128
  | 0, v => v
  | c + 1, v => nativeLoop k c (aesFinalRound (nativeRounds k v) (combinedKey k))

/-- `CHAIN_N(sched, block, n)` (R171). -/
def chainNative (k : Sched) (b : V128) (n : Nat) : V128 :=
  xor128 (nativeLoop k n (xor128 b (entry k 0))) (entry k 0)

/-! ## The oracle over any pair of engines (R191, R194) -/

/-- The least byte index at which two blocks differ, `none` where they are equal (R191, R32). -/
def leastDiff (a b : V128) : Option Nat := (List.range 16).find? fun i => byte a i != byte b i

/-- What CHECK answers (R191). -/
inductive Verdict where
  | ok (oa on : V128)
  | mismatch (oa on : V128) (i : Nat)
  deriving DecidableEq, Repr

/-- The comparison of R191 over an arbitrary pair of engine functions (R194). -/
def oracle (engineA engineN : Sched → V128 → Nat → V128) (k : Sched) (b : V128) (n : Nat) : Verdict :=
  match leastDiff (engineA k b n) (engineN k b n) with
  | none => .ok (engineA k b n) (engineN k b n)
  | some i => .mismatch (engineA k b n) (engineN k b n) i

end Sys2Proof.Machine
end

