-- ==== Sys2Proof/Config.lean ====
section
/-!
DEFINITION. What an implementation fixes (`00_scope.md` rule R8) and the free values of the model
(`93_implementation_defined.md` U3 and log entries 3, 7, 8).

An IterationCount (`10_state.md` rule R23) is a natural number: "A model may use an unbounded natural number; its results
then hold for the hardware for every `n < 2^CNT_W`" (R8). No width is assumed: `CNT_W` is an argument wherever it
matters, which is where a count must be expressible on `req_n` (`Ports`, `Instr.expressible`, `CountsFit`; log entry 1).
-/

namespace Sys2Proof

/-- The configuration of the hardware, fixed for the machine and not part of its state (R14). -/
structure Config where
  /-- `HAS_AES_ACCEL`: the platform capability the engines presuppose (R8, R216). -/
  hasAesAccel : Bool
  /-- `CNT_W`: the width in bits of `req_n`, "default 64" (R8, D6). -/
  cntW : Nat := 64
  deriving DecidableEq, Repr

/-- The configurations R8 allows: `CNT_W >= 20`, so that 1,000,000 fits. -/
abbrev Config.legal (cfg : Config) : Prop := 20 ≤ cfg.cntW

/-- This hardware: "This hardware has the capability (`HAS_AES_ACCEL = true`)" (R216). Its `CNT_W` is the default, and
no meaning reads it. -/
def Config.hardware : Config := { hasAesAccel := true }

/-- FREE VALUE (log entry 3): what `rsp_ek` holds after the respond event number `k` when the
operation does not define that port (R73, U3). No body: nothing constrains it. -/
opaque Config.freeRspEk (k : Nat) : Sched

/-- FREE VALUE (log entry 3): `rsp_dk` where the operation does not define it (R73, U3). -/
opaque Config.freeRspDk (k : Nat) : Sched

/-- FREE VALUE (log entry 3): `rsp_block` where the operation does not define it (R73, U3). -/
opaque Config.freeRspBlock (k : Nat) : V128

/-- FREE VALUE (log entry 3): `rsp_block_n` where the operation does not define it (R73, U3). -/
opaque Config.freeRspBlockN (k : Nat) : V128

/-- FREE VALUE (log entry 3): `rsp_diff` where the operation does not define it (R73, U3). -/
opaque Config.freeRspDiff (k : Nat) : BitVec 4

/-- FREE VALUE (log entry 7): the round constant of a round index for which `RCON` is not defined, `r` outside
`1..10` (R112, R113). -/
opaque Config.freeRcon (r : BitVec 4) : Byte

/-- FREE VALUE (log entry 8): the index `Q.DIFF` takes where step Q2 is run with `Q.MATCH = 0` on two blocks that do
not differ, so that "least `i` with `Q.OA.b[i] != Q.ON.b[i]`" names none (R32, R195). -/
opaque Config.freeDiff (x : V128) : BitVec 4

end Sys2Proof
end

