-- ==== Sys2Proof/Syntax.lean ====
section
/-!
DEFINITION. The instructions: one constructor per row of `spec/opcode_table.json`, nineteen in all:
four operations (`30_encoding.md` rule R76), eight micro-operations (`40_aes_primitives.md`), four
rows of sequencer control (rules R135, R156, R176, R195) and three pseudo-operations (rule R80).
Below them the forms a requester presents an instruction in: the request ports (rule R72) and the
program line (rules R79, R80).
-/

namespace Sys2Proof

/-- The four units of the CORE (R2). -/
inductive CoreUnit where
  | kse | seeA | seeN | eqo
  deriving DecidableEq, Repr

/-- The V128 registers a micro-operation can name as its result: SEE-A's state register (R30), SEE-N's
vector registers (R28) and the entries of KSE's two result files (R31). -/
inductive VReg where
  /-- `A.S` -/
  | aS
  /-- `V[i]` -/
  | v (i : Fin 12)
  /-- `KSE.EK[r]` -/
  | ek (r : Entry)
  /-- `KSE.DK[r]` -/
  | dk (r : Entry)
  deriving DecidableEq, Repr

/-- The V128 operands a micro-operation can name: a register, an entry of the round-key array
(`MemRead(RK, r)`, R51), or a V128 field of the operand latch (R27). -/
inductive VSrc where
  | reg (r : VReg)
  /-- `MemRead(RK, r)` -/
  | rk (r : Entry)
  /-- `OPR.KEY` -/
  | oprKey
  /-- `OPR.BLOCK` -/
  | oprBlock
  deriving DecidableEq, Repr

/-- The steps at which KSE issues its loop control (R135). -/
inductive KseLoopStep where
  | k0 | k3
  deriving DecidableEq, Repr

/-- The steps at which SEE-A issues its loop control (R155, R156). -/
inductive SeeALoopStep where
  | a1 | a4 | a6
  deriving DecidableEq, Repr

/-- The steps at which SEE-N issues its counted branch (R175, R176). -/
inductive SeeNLoopStep where
  | nt | n5
  deriving DecidableEq, Repr

/-- The steps at which EQO issues its comparison (R195). -/
inductive CompareStep where
  | q1 | q2
  deriving DecidableEq, Repr

/-- The instruction set. -/
inductive Instr where
  /-- EXPAND: the Key Schedule Expander (R131). -/
  | expand (key : V128)
  /-- CHAIN_A: the accelerated-intrinsic path (R151). -/
  | chainA (sched : Sched) (block : V128) (n : Nat)
  /-- CHAIN_N: the hand-scheduled native path (R171). -/
  | chainN (sched : Sched) (block : V128) (n : Nat)
  /-- CHECK: the Equivalence Oracle (R191). -/
  | check (sched : Sched) (block : V128) (n : Nat)
  /-- XOR128 (R108). -/
  | xor128 (d : VReg) (a b : VSrc)
  /-- SUBBYTES (R104). -/
  | subbytes (d : VReg) (s : VSrc)
  /-- SHIFTROWS (R105). -/
  | shiftrows (d : VReg) (s : VSrc)
  /-- MIXCOLUMNS (R106). -/
  | mixcolumns (d : VReg) (s : VSrc)
  /-- INVMIXCOLUMNS (R107). -/
  | invmixcolumns (d : VReg) (s : VSrc)
  /-- ROUND (R109). -/
  | round (d : VReg) (s k : VSrc)
  /-- FINALROUND (R110). -/
  | finalround (d : VReg) (s k : VSrc)
  /-- KEYSTEP (R113); `r` is the round index, four bits wide as `KSE.R` is (R31). -/
  | keystep (d : VReg) (p : VSrc) (r : BitVec 4)
  /-- KSE.LOOP (R135). -/
  | kseLoop (site : KseLoopStep)
  /-- SEEA.LOOP (R156). -/
  | seeaLoop (site : SeeALoopStep)
  /-- SEEN.LOOP (R176). -/
  | seenLoop (site : SeeNLoopStep)
  /-- EQO.COMPARE (R195). -/
  | eqoCompare (site : CompareStep)
  /-- POT_A: EXPAND, then CHAIN_A with the schedule EXPAND returned (R80). -/
  | potA (key block : V128) (n : Nat)
  /-- POT_N: EXPAND, then CHAIN_N with the schedule EXPAND returned (R80). -/
  | potN (key block : V128) (n : Nat)
  /-- POT_CHECK: EXPAND, then CHECK with the schedule EXPAND returned (R80). -/
  | potCheck (key block : V128) (n : Nat)
  deriving DecidableEq, Repr

/-- The four operations a request can select (R70, R76). -/
inductive Op where
  | expand | chainA | chainN | check
  deriving DecidableEq, Repr

/-- The request ports of hardware with a given `CNT_W` (R8, R72). -/
structure Ports (cntW : Nat) where
  /-- `req_op[1:0]` -/
  op    : BitVec 2
  /-- `req_key[127:0]` -/
  key   : BitVec 128
  /-- `req_sched[1407:0]` -/
  sched : BitVec 1408
  /-- `req_block[127:0]` -/
  block : BitVec 128
  /-- `req_n[CNT_W-1:0]` -/
  n     : BitVec cntW
  deriving DecidableEq, Repr

/-- What the request ports carry, sampled together at acceptance (R72), whatever the width of `req_n`. -/
structure Request where
  /-- `req_op[1:0]` -/
  op    : BitVec 2
  /-- `req_key[127:0]` -/
  key   : BitVec 128
  /-- `req_sched[1407:0]`: entry `k[r]` at `bits[128r+127:128r]` -/
  sched : BitVec 1408
  /-- `req_block[127:0]` -/
  block : BitVec 128
  /-- the number on `req_n`, unsigned -/
  n     : Nat
  deriving DecidableEq, Repr

/-- The request on the ports: "`n` is taken as an unsigned integer verbatim" (R75). -/
def Ports.request {cntW : Nat} (q : Ports cntW) : Request :=
  { op := q.op, key := q.key, sched := q.sched, block := q.block, n := q.n.toNat }

/-- The ports as the requester drives them for a request whose count is expressible, `n < 2^CNT_W` (R245). -/
def Request.ports (cntW : Nat) (p : Request) : Ports cntW :=
  { op := p.op, key := p.key, sched := p.sched, block := p.block, n := BitVec.ofNat cntW p.n }

/-- The three pseudo-operations (R80). -/
inductive PotKind where
  | a | n | check
  deriving DecidableEq, Repr

/-- One line of a requester's program (R79): a request, or a pseudo-operation, which the requester
carries out as two requests (R80). -/
inductive Line where
  | op (p : Request)
  | pot (k : PotKind) (key block : BitVec 128) (n : Nat)
  deriving DecidableEq, Repr

end Sys2Proof
end

