-- ==== Sys2Proof/WellFormed.lean ====
section
/-!
DEFINITION. Which instructions are well formed. Every operation and every pseudo-operation is
("There is no operand value that is illegal", `30_encoding.md` rule R77). A micro-operation is when
it stays inside a unit that issues it (`40_aes_primitives.md` rule R116) and names only operands that
unit can read (`10_state.md` rules R28, R31, `20_memory.md` rules R53, R54).
-/

namespace Sys2Proof

/-- The unit a register belongs to (R28, R30, R31). -/
def VReg.unit : VReg → CoreUnit
  | .aS => .seeA
  | .v _ => .seeN
  | .ek _ => .kse
  | .dk _ => .kse

/-- Whether unit `u` can read an operand: a register is read by its own unit only, `KSE.DK` by none
("The decryption schedule is never read by any unit", R54), `RK` and `OPR.BLOCK` by the two engines,
`OPR.KEY` by KSE (R27, R53). -/
def VSrc.readableBy (u : CoreUnit) : VSrc → Bool
  | .reg (.dk _) => false
  | .reg r => r.unit == u
  | .rk _ => u == .seeA || u == .seeN
  | .oprBlock => u == .seeA || u == .seeN
  | .oprKey => u == .kse

/-- A micro-operation with result `d` and operands `srcs`, issued by one of `units`. -/
def microWf (units : List CoreUnit) (d : VReg) (srcs : List VSrc) : Bool :=
  units.contains d.unit && srcs.all (VSrc.readableBy d.unit)

/-- The two engines, which issue the cipher micro-operations (R116). -/
def engines : List CoreUnit := [.seeA, .seeN]

/-- The well-formed instructions. -/
def Instr.wf : Instr → Bool
  | .expand _ => true
  | .chainA _ _ _ => true
  | .chainN _ _ _ => true
  | .check _ _ _ => true
  | .xor128 d a b => microWf engines d [a, b]
  | .subbytes d s => microWf engines d [s]
  | .shiftrows d s => microWf engines d [s]
  | .mixcolumns d s => microWf engines d [s]
  | .invmixcolumns d s => microWf [.kse] d [s]
  | .round d s k => microWf engines d [s, k]
  | .finalround d s k => microWf engines d [s, k]
  | .keystep d p r => microWf [.kse] d [p] && decide (1 ≤ r.toNat ∧ r.toNat ≤ 10)
  | .kseLoop _ => true
  | .seeaLoop _ => true
  | .seenLoop _ => true
  | .eqoCompare _ => true
  | .potA _ _ _ => true
  | .potN _ _ _ => true
  | .potCheck _ _ _ => true

/-- The instructions the hard-wired sequencers issue and that have no encoding: the rows of the table with
`"format": "micro"` (R78). -/
def Instr.isMicro : Instr → Bool
  | .expand _ => false
  | .chainA _ _ _ => false
  | .chainN _ _ _ => false
  | .check _ _ _ => false
  | .xor128 _ _ _ => true
  | .subbytes _ _ => true
  | .shiftrows _ _ => true
  | .mixcolumns _ _ => true
  | .invmixcolumns _ _ => true
  | .round _ _ _ => true
  | .finalround _ _ _ => true
  | .keystep _ _ _ => true
  | .kseLoop _ => true
  | .seeaLoop _ => true
  | .seenLoop _ => true
  | .eqoCompare _ => true
  | .potA _ _ _ => false
  | .potN _ _ _ => false
  | .potCheck _ _ _ => false

/-- The iteration count an instruction carries; none counts as zero (R70, R80). -/
def Instr.count : Instr → Nat
  | .chainA _ _ n => n
  | .chainN _ _ n => n
  | .check _ _ n => n
  | .potA _ _ n => n
  | .potN _ _ n => n
  | .potCheck _ _ n => n
  | .expand _ => 0
  | .xor128 _ _ _ => 0
  | .subbytes _ _ => 0
  | .shiftrows _ _ => 0
  | .mixcolumns _ _ => 0
  | .invmixcolumns _ _ => 0
  | .round _ _ _ => 0
  | .finalround _ _ _ => 0
  | .keystep _ _ _ => 0
  | .kseLoop _ => 0
  | .seeaLoop _ => 0
  | .seenLoop _ => 0
  | .eqoCompare _ => 0

/-- Whether the hardware with this `CNT_W` can express the instruction: "Keep `n < 2^CNT_W`; a larger count cannot be
expressed on `req_n`" (R245), and is not wrapped (U2). -/
def Instr.expressible (cntW : Nat) (i : Instr) : Bool := decide (i.count < 2 ^ cntW)

end Sys2Proof
end

