-- ==== Sys2Proof/Decode.lean ====
section
/-!
DEFINITION. Decoding and encoding. "A decoder is: look at `req_op`, nothing else" (`30_encoding.md`
rule R76); it is total (rule R77). The micro-operations have no encoding (rule R78), so nothing
decodes to one and `encode` gives none.
-/

namespace Sys2Proof

open Sys2Proof.Machine

/-- The operation a code selects (R76). -/
def opOfCode (c : BitVec 2) : Op :=
  if c = 0#2 then .expand
  else if c = 1#2 then .chainA
  else if c = 2#2 then .chainN
  else .check

/-- The code of an operation (R76). -/
def codeOfOp : Op → BitVec 2
  | .expand => 0#2
  | .chainA => 1#2
  | .chainN => 2#2
  | .check => 3#2

/-- The instruction the request ports carry: the code selects the operation, and each operand is taken
verbatim from its port (R71, R72, R75). A port the operation does not use is ignored (R72). -/
def decodeRequest (p : Request) : Instr :=
  match opOfCode p.op with
  | .expand => .expand p.key
  | .chainA => .chainA (unpackSched p.sched) p.block p.n
  | .chainN => .chainN (unpackSched p.sched) p.block p.n
  | .check => .check (unpackSched p.sched) p.block p.n

/-- The instruction on the request ports of hardware with a given `CNT_W` (R72, R76). -/
def decodePorts {cntW : Nat} (q : Ports cntW) : Instr := decodeRequest q.request

/-- The instruction a line of a requester's program stands for (R79, R80). -/
def decode : Line → Instr
  | .op p => decodeRequest p
  | .pot .a key block n => .potA key block n
  | .pot .n key block n => .potN key block n
  | .pot .check key block n => .potCheck key block n

/-- Why a list of bytes is no request. -/
inductive DecodeError where
  /-- Fewer bytes than the request ports take. -/
  | truncated
  deriving DecidableEq, Repr

/-- How many bytes the image of a request takes: one for `req_op`, then `req_key`, `req_sched`,
`req_block` and the `CNT_W` bits of `req_n` (log entry 6). -/
def requestBytes (cntW : Nat) : Nat := 1 + 16 + 176 + 16 + (cntW + 7) / 8

/-- The number a list of bytes stands for, first byte least significant. -/
def natOfBytes : List Byte → Nat
  | [] => 0
  | b :: bs => b.toNat + 256 * natOfBytes bs

/-- The first `k` bytes of a number, least significant byte first. -/
def bytesOfNat : Nat → Nat → List Byte
  | 0, _ => []
  | k + 1, x => BitVec.ofNat 8 x :: bytesOfNat k (x / 256)

/-- The request whose ports lie in the number `w`: `req_op` at `w[1:0]`, `req_key` from bit 8,
`req_sched` from bit 136, `req_block` from bit 1544, `req_n` in the `CNT_W` bits from bit 1672. Bits 7 to 2
belong to no port. DESIGN CHOICE (log entry 6): the spec gives the ports no common word. -/
def requestOfNat (cntW w : Nat) : Request where
  op := BitVec.ofNat 2 w
  key := BitVec.ofNat 128 (w >>> 8)
  sched := BitVec.ofNat 1408 (w >>> 136)
  block := BitVec.ofNat 128 (w >>> 1544)
  n := (w >>> 1672) % 2 ^ cntW

/-- Decode the image of a request: the instruction and the bytes after it, total on any bytes. -/
def decodeBytes (cntW : Nat) (bs : List Byte) : Except DecodeError (Instr × List Byte) :=
  if bs.length < requestBytes cntW then .error .truncated
  else .ok (decodeRequest (requestOfNat cntW (natOfBytes (bs.take (requestBytes cntW)))),
    bs.drop (requestBytes cntW))

/-- The request a word of `spec/opcode_table.json` makes up: the row's bits, every bit above `nbits` zero. A count
among them has fewer than `nbits` bits, so no width cuts it. -/
def tableRequest (nbits w : Nat) : Request := requestOfNat nbits (w % 2 ^ nbits)

/-- The instruction the decoder reads from a word of `spec/opcode_table.json`. The decoder is total (R77), so
there always is one. -/
def decodeTableWord (nbits w : Nat) : Option Instr := some (decodeRequest (tableRequest nbits w))

/-- The request of an operation whose used ports hold `key`, `sched`, `block` and `n`. -/
def requestOf (o : Op) (key : V128) (sched : Sched) (block : V128) (n : Nat) : Request where
  op := codeOfOp o
  key := key
  sched := packSched sched
  block := block
  n := n

/-- The ports an operation leaves unused are driven with zeros by the encoder; their value has no
effect (R72). -/
def zeroSched : Sched := #v[0, 0, 0, 0, 0, 0, 0, 0, 0, 0, 0]

/-- The line a requester writes for an instruction (R72, R76, R80); none for a micro-operation, which
"has no binary encoding" (R78). -/
def encode : Instr → Option Line
  | .expand key => some (.op (requestOf .expand key zeroSched 0 0))
  | .chainA sched block n => some (.op (requestOf .chainA 0 sched block n))
  | .chainN sched block n => some (.op (requestOf .chainN 0 sched block n))
  | .check sched block n => some (.op (requestOf .check 0 sched block n))
  | .xor128 _ _ _ => none
  | .subbytes _ _ => none
  | .shiftrows _ _ => none
  | .mixcolumns _ _ => none
  | .invmixcolumns _ _ => none
  | .round _ _ _ => none
  | .finalround _ _ _ => none
  | .keystep _ _ _ => none
  | .kseLoop _ => none
  | .seeaLoop _ => none
  | .seenLoop _ => none
  | .eqoCompare _ => none
  | .potA key block n => some (.pot .a key block n)
  | .potN key block n => some (.pot .n key block n)
  | .potCheck key block n => some (.pot .check key block n)

/-- The number a request's ports make up, laid out as `requestOfNat` reads it. -/
def natOfRequest (p : Request) : Nat :=
  p.op.toNat + 2 ^ 8 * p.key.toNat + 2 ^ 136 * p.sched.toNat + 2 ^ 1544 * p.block.toNat
    + 2 ^ 1672 * p.n

/-- The image of a request in bytes. -/
def encodeBytes (cntW : Nat) (p : Request) : List Byte := bytesOfNat (requestBytes cntW) (natOfRequest p)

end Sys2Proof
end

