-- ==== Sys2Proof/Machine/State.lean ====
section
/-!
DEFINITION. The state of one CORE (`10_state.md`), the reasons a step stops, and reset
(`70_reset_and_hazards.md` rule R240). Everything is plain data. INVENTORY.md lists every field with
its rule and its reset value.
-/

namespace Sys2Proof.Machine

/-- `CORE.MODE` (R34). -/
inductive Mode where
  | ready | busy | fatal
  deriving DecidableEq, Repr

/-! ## Sequencer positions: a step label of the unit's step table, or no step (R26, R240) -/

/-- KSE's sequencer (R135). -/
inductive KsePos where
  | idle | k0 | k1 | k2 | k3 | k4
  deriving DecidableEq, Repr

/-- SEE-A's sequencer (R155). -/
inductive SeeAPos where
  | idle | a0 | a1 | a2 | a3 | a4 | a5 | a6 | a7
  deriving DecidableEq, Repr

/-- SEE-N's sequencer (R175). `n3 j` is the step N3.(j+1), one of the nine straight-line rounds. -/
inductive SeeNPos where
  | idle | n0 | n1 | n2 | nt | n3 (j : Fin 9) | n4 | n5 | n6 | n7
  deriving DecidableEq, Repr

/-- EQO's sequencer (R195). -/
inductive EqoPos where
  | idle | q0 | q1 | q2 | q3 | q4
  deriving DecidableEq, Repr

/-! ## The registers, unit by unit -/

/-- The operand latch (R27): constant from acceptance to response. -/
structure OperandLatch where
  /-- `OPR.OP` -/
  op    : BitVec 2
  /-- `OPR.KEY` -/
  key   : V128
  /-- `RK[0..10]`, the round-key array (R50) -/
  rk    : Sched
  /-- `OPR.BLOCK` -/
  block : V128
  /-- `OPR.N` -/
  n     : Nat
  deriving DecidableEq, Repr

/-- KSE's result files, round index and sequencer (R31). -/
structure Kse where
  ek  : Sched
  dk  : Sched
  r   : BitVec 4
  pos : KsePos
  deriving DecidableEq, Repr

/-- SEE-A's registers `A.S`, `A.I`, `A.R` and its sequencer (R30). -/
structure SeeA where
  s   : V128
  i   : Nat
  r   : BitVec 4
  pos : SeeAPos
  deriving DecidableEq, Repr

/-- SEE-N's vector registers `V[0..11]` (R28), its counter `N.C` (R29) and its sequencer. -/
structure SeeN where
  v   : Vector V128 12
  c   : Nat
  pos : SeeNPos
  deriving DecidableEq, Repr

/-- EQO's registers `Q.OA`, `Q.ON`, `Q.MATCH`, `Q.DIFF` (R32) and its sequencer. -/
structure Eqo where
  oa      : V128
  on      : V128
  matched : Bool
  diff    : BitVec 4
  pos     : EqoPos
  deriving DecidableEq, Repr

/-- The fatal record `FR` (R37). -/
structure FatalRecord where
  valid : Bool
  cause : BitVec 2
  oa    : V128
  on    : V128
  diff  : BitVec 4
  deriving DecidableEq, Repr

/-- The response ports (R73); the two schedules are packed on their ports by `packSched`. -/
structure Response where
  /-- `rsp_status`: 0 = OK, 1 = MISMATCH -/
  status : BitVec 1
  /-- `rsp_ek` -/
  ek     : Sched
  /-- `rsp_dk` -/
  dk     : Sched
  /-- `rsp_block` -/
  block  : V128
  /-- `rsp_block_n` -/
  blockN : V128
  /-- `rsp_diff` -/
  diff   : BitVec 4
  deriving DecidableEq, Repr

/-! ## The requester -/

/-- What the requester does in one step of the machine (R225, R247). -/
inductive HostEvent where
  /-- Nothing. -/
  | idle
  /-- The `reset` input (R240). -/
  | reset
  /-- Drive the request ports; where `ready = 1` the request is accepted, and the operation then runs one
  sequencer step for each step of the machine (R26, R74). -/
  | present (p : Request)
  /-- Issue one line of a program as a synchronous call: the operation is run from acceptance to
  response (R74, R79, R80; D0: "All operations are synchronous", R59). -/
  | call (l : Line)
  deriving DecidableEq, Repr

/-- The engine that takes the next step of Q0 (R196). -/
inductive Engine where
  | seeA | seeN
  deriving DecidableEq, Repr

/-- How the last accepted request of the run stands (R248). -/
inductive LastRequest where
  /-- No request has been accepted. -/
  | noneYet
  /-- It was accepted and runs. -/
  | running
  /-- Its respond event occurred, with this `rsp_status`. -/
  | responded (status : BitVec 1)
  /-- Reset came before its respond event: "abandoned with no response" (R240). -/
  | abandoned
  deriving DecidableEq, Repr

/-- The state of one CORE, with what stands outside it: the events the requester has in store, and fields
of the model's own for what the spec leaves open (log entries 3 and 4) and for how the run stands (log entry 18). -/
structure State where
  /-- `OPR` and `RK` (R27) -/
  opr    : OperandLatch
  /-- `CORE.MODE` (R34) -/
  mode   : Mode
  /-- KSE (R31) -/
  kse    : Kse
  /-- SEE-A (R30) -/
  seeA   : SeeA
  /-- SEE-N (R28, R29) -/
  seeN   : SeeN
  /-- EQO (R32) -/
  eqo    : Eqo
  /-- `FR` (R37) -/
  fr     : FatalRecord
  /-- the response ports (R73) -/
  rsp    : Response
  /-- MODEL'S OWN (log entry 3): how many respond events there were, the index of the next free values -/
  free   : Nat
  /-- MODEL'S OWN (log entry 4): which engine takes each coming step of Q0; SEE-A where the list has ended -/
  turns  : List Engine
  /-- the requester's coming events, one for each step; nothing where the list has ended (log entry 5) -/
  inputs : List HostEvent
  /-- MODEL'S OWN (log entry 18): how the last accepted request stands (R248); no meaning reads it -/
  last   : LastRequest
  deriving DecidableEq, Repr

/-- Why the machine stops. No instruction raises the one reason there is, and no step from a state that the machine
can be in does (`Safety.lean`). -/
inductive Fault where
  /-- The round index `r` of a sequencer makes it name an entry outside `0..10` of a round-key file, which does not
  exist (R57, log entry 9). Raised by the sequencer steps K1 and A3 only. SAFE: the model stops where the spec gives
  no effect. -/
  | noSuchEntry (r : BitVec 4)
  deriving DecidableEq, Repr

/-- Why an instruction is given no meaning. -/
inductive Refusal where
  /-- An instruction the model gives no meaning yet; raised by `exec` only. Safe. -/
  | notModelled (mnemonic : String)
  /-- CHAIN_A, CHAIN_N or CHECK where `HAS_AES_ACCEL = false` (R158, R216, U1): no result, no fault report,
  no state change. Raised by the acceptance of those three. Safe. -/
  | capabilityAbsent
  deriving DecidableEq, Repr

/-- The outcome of an instruction or of a step. -/
abbrev Result := Host.Outcome State Fault Refusal

/-! ## One update for each field -/

def State.setOpr (s : State) (x : OperandLatch) : State := { s with opr := x }
def State.setMode (s : State) (x : Mode) : State := { s with mode := x }
def State.setKse (s : State) (x : Kse) : State := { s with kse := x }
def State.setSeeA (s : State) (x : SeeA) : State := { s with seeA := x }
def State.setSeeN (s : State) (x : SeeN) : State := { s with seeN := x }
def State.setEqo (s : State) (x : Eqo) : State := { s with eqo := x }
def State.setFr (s : State) (x : FatalRecord) : State := { s with fr := x }
def State.setRsp (s : State) (x : Response) : State := { s with rsp := x }
def State.setFree (s : State) (x : Nat) : State := { s with free := x }
def State.setTurns (s : State) (x : List Engine) : State := { s with turns := x }
def State.setInputs (s : State) (x : List HostEvent) : State := { s with inputs := x }
def State.setLast (s : State) (x : LastRequest) : State := { s with last := x }

/-- The output `ready`: 1 iff `CORE.MODE = READY` (R74). -/
def State.ready (s : State) : Bool := s.mode == .ready

/-- The output `fatal`: 1 iff `CORE.MODE = FATAL` (R74). -/
def State.fatal (s : State) : Bool := s.mode == .fatal

/-- The machine right after reset (R240): `CORE.MODE = READY`, `FR.VALID = 0`, every sequencer at no step.
DESIGN CHOICE (log entry 2): every register and port whose value the spec leaves unspecified holds zero. -/
def State.reset : State where
  opr := { op := 0, key := 0, rk := zeroSched, block := 0, n := 0 }
  mode := .ready
  kse := { ek := zeroSched, dk := zeroSched, r := 0, pos := .idle }
  seeA := { s := 0, i := 0, r := 0, pos := .idle }
  seeN := { v := #v[0, 0, 0, 0, 0, 0, 0, 0, 0, 0, 0, 0], c := 0, pos := .idle }
  eqo := { oa := 0, on := 0, matched := false, diff := 0, pos := .idle }
  fr := { valid := false, cause := 0, oa := 0, on := 0, diff := 0 }
  rsp := { status := 0, ek := zeroSched, dk := zeroSched, block := 0, blockN := 0, diff := 0 }
  free := 0
  turns := []
  inputs := []
  last := .noneYet

end Sys2Proof.Machine
end

