-- ==== Sys2Proof/Machine/Flags.lean ====
section
/-!
DEFINITION. The flag-like state of the CORE: EQO's `Q.MATCH` and `Q.DIFF` (`10_state.md` rule R32). No
other instruction computes a flag.
-/

namespace Sys2Proof.Machine

/-- `Q.MATCH`: 1 iff the two outputs are equal in all 128 bits (R32, R191). -/
def matchFlag (oa on : V128) : Bool := oa == on

/-- `Q.DIFF`: the least `i` with `oa.b[i] != on.b[i]` (R32). With equal blocks there is no such index, and the value
is free (log entry 8); the running machine never gets there (R195). -/
def diffIndex (oa on : V128) : BitVec 4 :=
  match leastDiff oa on with
  | some i => BitVec.ofNat 4 i
  | none => Config.freeDiff oa

end Sys2Proof.Machine
end

