-- ==== Sys2Proof/Machine/Operands.lean ====
section
/-!
DEFINITION. Reading and writing operands: the round-key array and the KSE result files, entry by entry
(`20_memory.md` rules R51, R52), and the V128 operands a micro-operation names.
-/

namespace Sys2Proof.Machine

/-- `MemRead(RK, r)`: the whole entry, no side effect (R51). -/
def memRead (s : State) (r : Entry) : V128 := s.opr.rk[r]

/-- The round-key array in the format's byte-address notation: the byte at offset `16*r + i` of a 176-byte
space is `RK[r].b[i]` (R51). -/
def rkByte (s : State) (a : Nat) : Byte := byte (entry s.opr.rk (a / 16)) (a % 16)

/-- `MemWrite(EK, r, v)`: the whole entry (R52). -/
def memWriteEk (r : Entry) (x : V128) (s : State) : State :=
  s.setKse { s.kse with ek := s.kse.ek.set r.val x r.isLt }

/-- `MemWrite(DK, r, v)`: the whole entry (R52). -/
def memWriteDk (r : Entry) (x : V128) (s : State) : State :=
  s.setKse { s.kse with dk := s.kse.dk.set r.val x r.isLt }

/-- Read a V128 register. -/
def readReg (s : State) : VReg → V128
  | .aS => s.seeA.s
  | .v i => s.seeN.v[i]
  | .ek r => s.kse.ek[r]
  | .dk r => s.kse.dk[r]

/-- Read a V128 operand. -/
def readSrc (s : State) : VSrc → V128
  | .reg r => readReg s r
  | .rk r => memRead s r
  | .oprKey => s.opr.key
  | .oprBlock => s.opr.block

/-- Write a V128 register. No register is hardwired and none aliases another (R28). -/
def writeReg (d : VReg) (x : V128) (s : State) : State :=
  match d with
  | .aS => s.setSeeA { s.seeA with s := x }
  | .v i => s.setSeeN { s.seeN with v := s.seeN.v.set i.val x i.isLt }
  | .ek r => memWriteEk r x s
  | .dk r => memWriteDk r x s

/-- The round constant KEYSTEP takes for its operand `r`: `RCON(r)`, and a free value where `RCON` is not defined
(R112, log entry 7). -/
def roundConstant (r : BitVec 4) : Byte :=
  match rcon r.toNat with
  | some rc => rc
  | none => Config.freeRcon r

/-- The entry with index `i`, where there is one (R57). -/
def entryOf (i : Nat) : Option Entry := if h : i < 11 then some ⟨i, h⟩ else none

end Sys2Proof.Machine
end

