-- ==== Sys2Proof/Machine/Ops.lean ====
section
/-!
DEFINITION. The shared operations: sequencing of outcomes, counters, the accept and respond events
(`30_encoding.md` rule R74), raising EquivalenceMismatch (`60_exceptions.md` rule R213), and reset, the
only way back from it (`60_exceptions.md` rule R215, `70_reset_and_hazards.md` rule R240).
-/

namespace Sys2Proof.Machine

/-- Do `f` in the next state, where there is one. -/
def andThen (o : Result) (f : State → Result) : Result :=
  match o with
  | .next s => f s
  | .fault r => .fault r
  | .refused r => .refused r

/-- Decrement a loop counter: "A counter is decremented only when it is non-zero, so no counter ever
wraps" (R115, R29). -/
def countDown (c : Nat) : Nat := if c = 0 then c else c - 1

/-! ## Sequencer positions -/

def goK (p : KsePos) (s : State) : State := s.setKse { s.kse with pos := p }
def goA (p : SeeAPos) (s : State) : State := s.setSeeA { s.seeA with pos := p }
def goN (p : SeeNPos) (s : State) : State := s.setSeeN { s.seeN with pos := p }
def goQ (p : EqoPos) (s : State) : State := s.setEqo { s.eqo with pos := p }

/-! ## The accept event (R27, R74): the operands are copied into the latch and `CORE.MODE <- BUSY` -/

/-- What every acceptance does beside the latch: `CORE.MODE <- BUSY` (R74), and a request of the run is under way
(R248). -/
def enterBusy (s : State) : State := (s.setMode .busy).setLast .running

/-- Acceptance of EXPAND writes `OPR.OP` and `OPR.KEY` (R27) and starts KSE at K0. -/
def acceptExpand (key : V128) (s : State) : State :=
  goK .k0 (enterBusy (s.setOpr { s.opr with op := codeOfOp .expand, key := key }))

/-- Acceptance of CHAIN_A, CHAIN_N or CHECK writes `OPR.OP`, `RK`, `OPR.BLOCK` and `OPR.N` (R27). -/
def latchChain (o : Op) (sched : Sched) (block : V128) (n : Nat) (s : State) : State :=
  enterBusy (s.setOpr { s.opr with op := codeOfOp o, rk := sched, block := block, n := n })

/-- Acceptance of CHAIN_A: SEE-A starts at A0. -/
def acceptChainA (sched : Sched) (block : V128) (n : Nat) (s : State) : State :=
  goA .a0 (latchChain .chainA sched block n s)

/-- Acceptance of CHAIN_N: SEE-N starts at N0. -/
def acceptChainN (sched : Sched) (block : V128) (n : Nat) (s : State) : State :=
  goN .n0 (latchChain .chainN sched block n s)

/-- Acceptance of CHECK: EQO starts at Q0, in which both engines run from their first step (R195). -/
def acceptCheck (sched : Sched) (block : V128) (n : Nat) (s : State) : State :=
  goQ .q0 (goN .n0 (goA .a0 (latchChain .check sched block n s)))

/-- What the capability check does: without `HAS_AES_ACCEL` the request is refused, with no result and
no state change (R216). -/
def requireAccel (cfg : Config) (s : State) : Result :=
  if cfg.hasAesAccel then .next s else .refused .capabilityAbsent

/-! ## The respond event (R73, R74): the ports an operation does not define take free values -/

/-- The response ports with a free value on each: what an operation overrides it defines (R73, U3). -/
def freeResponse (k : Nat) (status : BitVec 1) : Response where
  status := status
  ek := Config.freeRspEk k
  dk := Config.freeRspDk k
  block := Config.freeRspBlock k
  blockN := Config.freeRspBlockN k
  diff := Config.freeRspDiff k

/-- Present the response ports and leave BUSY; the next response takes the next free values, and the run's last
request has responded (R248). -/
def respond (rsp : Response) (m : Mode) (s : State) : State :=
  (((s.setRsp rsp).setMode m).setFree (s.free + 1)).setLast (.responded rsp.status)

/-- K4: `rsp_ek <- EK`, `rsp_dk <- DK`, `rsp_status <- 0` (R135). -/
def respondExpand (s : State) : State :=
  goK .idle (respond { freeResponse s.free 0 with ek := s.kse.ek, dk := s.kse.dk } .ready s)

/-- A7: `rsp_block <- A.S`, `rsp_status <- 0` (R155). -/
def respondChainA (s : State) : State :=
  goA .idle (respond { freeResponse s.free 0 with block := s.seeA.s } .ready s)

/-- N7: `rsp_block <- V[0]`, `rsp_status <- 0` (R175). -/
def respondChainN (s : State) : State :=
  goN .idle (respond { freeResponse s.free 0 with block := readReg s (.v 0) } .ready s)

/-- Q3: `rsp_status <- 0`, `rsp_block <- Q.OA`, `rsp_block_n <- Q.ON`; `CORE.MODE <- READY` (R195). -/
def respondCheck (s : State) : State :=
  goQ .idle (respond { freeResponse s.free 0 with block := s.eqo.oa, blockN := s.eqo.on } .ready s)

/-! ## The one exception and the way out of it -/

/-- `raise EquivalenceMismatch(oa, on, i)`, one indivisible action at Q4: the fatal record is written, the
response is still delivered with status 1, `CORE.MODE <- FATAL`, and "Nothing else changes" (R213). There is
no handler, no vector and no saved program counter. -/
def raiseMismatch (oa on : V128) (i : BitVec 4) (s : State) : State :=
  goQ .idle
    (respond { freeResponse s.free 1 with block := oa, blockN := on, diff := i } .fatal
      (s.setFr { valid := true, cause := 1, oa := oa, on := on, diff := i }))

/-- How the last request stands after reset: abandoned where it was in progress (R240, R248). -/
def lastAfterReset (s : State) : LastRequest := if s.mode = .busy then .abandoned else s.last

/-- The `reset` event, "the only exit" from FATAL (R215): every piece of the CORE's state goes to its value
after reset, in any mode; an operation in progress is abandoned with no response (R240). The requester's
coming events, the two streams of the model's own and the record of the run are not the CORE's and stay (log
entry 16). -/
def resetEvent (s : State) : State :=
  (((State.reset.setInputs s.inputs).setTurns s.turns).setFree s.free).setLast (lastAfterReset s)

end Sys2Proof.Machine
end

