-- ==== Sys2Proof/Machine/Control.lean ====
section
/-!
DEFINITION. Sequencer control as instructions: the loop control of the three counted sequencers
(`41_key_schedule.md` rule R135, `42_engine_accelerated.md` rules R155, R156, `43_engine_native.md` rules
R175, R176) and EQO's comparison (`44_equivalence_oracle.md` rule R195). Each writes its counter or flag and
the position of its own sequencer.
-/

namespace Sys2Proof.Machine

/-- KSE.LOOP. K0: `KSE.R <- 1`. K3: if `KSE.R = 10` then `step <- K4` else `KSE.R <- KSE.R + 1; step <- K1`
(R135). -/
def execKseLoop (site : KseLoopStep) (s : State) : Result :=
  match site with
  | .k0 => .next (s.setKse { s.kse with r := 1, pos := .k1 })
  | .k3 =>
    if s.kse.r = 10 then .next (goK .k4 s)
    else .next (s.setKse { s.kse with r := s.kse.r + 1, pos := .k1 })

/-- SEEA.LOOP. A1: if `A.I = 0` then `step <- A7`. A4: if `A.R = 9` then `step <- A5` else
`A.R <- A.R + 1; step <- A3`. A6: `A.I <- A.I - 1; step <- A1` (R155, R156). -/
def execSeeaLoop (site : SeeALoopStep) (s : State) : Result :=
  match site with
  | .a1 => if s.seeA.i = 0 then .next (goA .a7 s) else .next (goA .a2 s)
  | .a4 =>
    if s.seeA.r = 9 then .next (goA .a5 s)
    else .next (s.setSeeA { s.seeA with r := s.seeA.r + 1, pos := .a3 })
  | .a6 => .next (s.setSeeA { s.seeA with i := countDown s.seeA.i, pos := .a1 })

/-- SEEN.LOOP. NT: if `N.C = 0` then `step <- N6`. N5: `N.C <- N.C - 1; step <- NT` (R175, R176). -/
def execSeenLoop (site : SeeNLoopStep) (s : State) : Result :=
  match site with
  | .nt => if s.seeN.c = 0 then .next (goN .n6 s) else .next (goN (.n3 0) s)
  | .n5 => .next (s.setSeeN { s.seeN with c := countDown s.seeN.c, pos := .nt })

/-- EQO.COMPARE. Q1: `Q.MATCH <- (Q.OA == Q.ON)`. Q2: if `Q.MATCH = 1` then `step <- Q3` else `Q.DIFF` takes the
least differing byte index and `step <- Q4` (R195). -/
def execEqoCompare (site : CompareStep) (s : State) : Result :=
  match site with
  | .q1 => .next (s.setEqo { s.eqo with matched := matchFlag s.eqo.oa s.eqo.on, pos := .q2 })
  | .q2 =>
    if s.eqo.matched then .next (goQ .q3 s)
    else .next (s.setEqo { s.eqo with diff := diffIndex s.eqo.oa s.eqo.on, pos := .q4 })

end Sys2Proof.Machine
end

