-- ==== Sys2Proof/Machine/Datapath.lean ====
section
/-!
DEFINITION. The eight micro-operations as instructions (`40_aes_primitives.md`): each reads its named
operands, writes its named result and changes nothing else; "None reads or writes any state other than
its named operands and result, none sets a flag, none can fault" (rule R100).
-/

namespace Sys2Proof.Machine

/-- XOR128 (R108). -/
def execXor128 (d : VReg) (a b : VSrc) (s : State) : Result :=
  .next (writeReg d (xor128 (readSrc s a) (readSrc s b)) s)

/-- SUBBYTES (R104). -/
def execSubbytes (d : VReg) (x : VSrc) (s : State) : Result :=
  .next (writeReg d (subBytes (readSrc s x)) s)

/-- SHIFTROWS (R105). -/
def execShiftrows (d : VReg) (x : VSrc) (s : State) : Result :=
  .next (writeReg d (shiftRows (readSrc s x)) s)

/-- MIXCOLUMNS (R106). -/
def execMixcolumns (d : VReg) (x : VSrc) (s : State) : Result :=
  .next (writeReg d (mixColumns (readSrc s x)) s)

/-- INVMIXCOLUMNS (R107). -/
def execInvmixcolumns (d : VReg) (x : VSrc) (s : State) : Result :=
  .next (writeReg d (invMixColumns (readSrc s x)) s)

/-- ROUND (R109). -/
def execRound (d : VReg) (x k : VSrc) (s : State) : Result :=
  .next (writeReg d (aesRound (readSrc s x) (readSrc s k)) s)

/-- FINALROUND (R110). -/
def execFinalround (d : VReg) (x k : VSrc) (s : State) : Result :=
  .next (writeReg d (aesFinalRound (readSrc s x) (readSrc s k)) s)

/-- KEYSTEP (R113). "`r` outside 1..10 is never issued"; there it runs with a free round constant, since no
micro-operation can fault (R100, log entry 7). -/
def execKeystep (d : VReg) (p : VSrc) (r : BitVec 4) (s : State) : Result :=
  .next (writeReg d (keyStep (readSrc s p) (roundConstant r)) s)

end Sys2Proof.Machine
end

