-- ==== Sys2Proof/Machine/Sequencers.lean ====
section
/-!
DEFINITION. The four sequencers: what one step of each step table does (`41_key_schedule.md` rule R135,
`42_engine_accelerated.md` rule R155, `43_engine_native.md` rule R175, `44_equivalence_oracle.md` rule
R195). A step that issues a micro-operation runs that instruction's meaning and moves on (`10_state.md`
rule R26).
-/

namespace Sys2Proof.Machine

/-! ## KSE (R135) -/

/-- K1: `MemWrite(EK, KSE.R, KEYSTEP(EK[KSE.R - 1], KSE.R))`. -/
def kseK1 (s : State) : Result :=
  match s.kse.r.toNat with
  | 0 => .fault (.noSuchEntry s.kse.r)
  | q + 1 =>
    match entryOf q, entryOf (q + 1) with
    | some p, some d => andThen (execKeystep (.ek d) (.reg (.ek p)) s.kse.r s) fun t => .next (goK .k2 t)
    | _, _ => .fault (.noSuchEntry s.kse.r)

/-- K2: if `KSE.R <= 9` then `MemWrite(DK, KSE.R, INVMIXCOLUMNS(EK[KSE.R]))` else `MemWrite(DK, 10, EK[10])`. -/
def kseK2 (s : State) : Result :=
  if h : s.kse.r.toNat ≤ 9 then
    andThen (execInvmixcolumns (.dk ⟨s.kse.r.toNat, by omega⟩) (.reg (.ek ⟨s.kse.r.toNat, by omega⟩)) s)
      fun t => .next (goK .k3 t)
  else .next (goK .k3 (memWriteDk 10 (readReg s (.ek 10)) s))

/-- One step of KSE. -/
def kseStep (s : State) : Result :=
  match s.kse.pos with
  | .idle => .next s
  | .k0 => execKseLoop .k0 (memWriteDk 0 s.opr.key (memWriteEk 0 s.opr.key s))
  | .k1 => kseK1 s
  | .k2 => kseK2 s
  | .k3 => execKseLoop .k3 s
  | .k4 => .next (respondExpand s)

/-! ## SEE-A (R155) -/

/-- A0: `A.S <- OPR.BLOCK`; `A.I <- OPR.N`. -/
def seeAA0 (s : State) : Result :=
  .next (s.setSeeA { s.seeA with s := s.opr.block, i := s.opr.n, pos := .a1 })

/-- A2: `A.S <- XOR128(A.S, MemRead(RK, 0))`; `A.R <- 1`. -/
def seeAA2 (s : State) : Result :=
  andThen (execXor128 .aS (.reg .aS) (.rk 0) s) fun t =>
    .next (t.setSeeA { t.seeA with r := 1, pos := .a3 })

/-- A3: `A.S <- ROUND(A.S, MemRead(RK, A.R))`. -/
def seeAA3 (s : State) : Result :=
  match entryOf s.seeA.r.toNat with
  | some r => andThen (execRound .aS (.reg .aS) (.rk r) s) fun t => .next (goA .a4 t)
  | none => .fault (.noSuchEntry s.seeA.r)

/-- A5: `A.S <- FINALROUND(A.S, MemRead(RK, 10))`. -/
def seeAA5 (s : State) : Result :=
  andThen (execFinalround .aS (.reg .aS) (.rk 10) s) fun t => .next (goA .a6 t)

/-- One step of SEE-A. -/
def seeAStep (s : State) : Result :=
  match s.seeA.pos with
  | .idle => .next s
  | .a0 => seeAA0 s
  | .a1 => execSeeaLoop .a1 s
  | .a2 => seeAA2 s
  | .a3 => seeAA3 s
  | .a4 => execSeeaLoop .a4 s
  | .a5 => seeAA5 s
  | .a6 => execSeeaLoop .a6 s
  | .a7 => .next (respondChainA s)

/-! ## SEE-N (R175) -/

/-- The ten plain loads of N0: `V[11] <- MemRead(RK, 0)`; `V[r] <- MemRead(RK, r)` for `r` = 1..9, in one
transfer ("The order of the eleven loads inside N0 is immaterial"); `V[0]` and `V[10]` are not among them. -/
def loadKeys (s : State) : State :=
  s.setSeeN { s.seeN with
    v := #v[readReg s (.v 0), memRead s 1, memRead s 2, memRead s 3, memRead s 4, memRead s 5,
      memRead s 6, memRead s 7, memRead s 8, memRead s 9, readReg s (.v 10), memRead s 0] }

/-- N0: the loads, then `V[10] <- XOR128(MemRead(RK, 10), V[11])`. -/
def seeNN0 (s : State) : Result :=
  andThen (execXor128 (.v 10) (.rk 10) (.reg (.v 11)) (loadKeys s)) fun t => .next (goN .n1 t)

/-- N1: `N.C <- OPR.N`. -/
def seeNN1 (s : State) : Result := .next (s.setSeeN { s.seeN with c := s.opr.n, pos := .n2 })

/-- N2: `V[0] <- XOR128(OPR.BLOCK, V[11])`. -/
def seeNN2 (s : State) : Result :=
  andThen (execXor128 (.v 0) .oprBlock (.reg (.v 11)) s) fun t => .next (goN .nt t)

/-- The step after N3.(j+1): N3.(j+2), and N4 after N3.9. -/
def afterRound (j : Fin 9) : SeeNPos := if h : j.val < 8 then .n3 ⟨j.val + 1, by omega⟩ else .n4

/-- N3.(j+1): `V[0] <- ROUND(V[0], V[j+1])`. -/
def seeNN3 (j : Fin 9) (s : State) : Result :=
  andThen (execRound (.v 0) (.reg (.v 0)) (.reg (.v ⟨j.val + 1, by omega⟩)) s) fun t =>
    .next (goN (afterRound j) t)

/-- N4: `V[0] <- FINALROUND(V[0], V[10])`. -/
def seeNN4 (s : State) : Result :=
  andThen (execFinalround (.v 0) (.reg (.v 0)) (.reg (.v 10)) s) fun t => .next (goN .n5 t)

/-- N6: `V[0] <- XOR128(V[0], V[11])`. -/
def seeNN6 (s : State) : Result :=
  andThen (execXor128 (.v 0) (.reg (.v 0)) (.reg (.v 11)) s) fun t => .next (goN .n7 t)

/-- One step of SEE-N. -/
def seeNStep (s : State) : Result :=
  match s.seeN.pos with
  | .idle => .next s
  | .n0 => seeNN0 s
  | .n1 => seeNN1 s
  | .n2 => seeNN2 s
  | .nt => execSeenLoop .nt s
  | .n3 j => seeNN3 j s
  | .n4 => seeNN4 s
  | .n5 => execSeenLoop .n5 s
  | .n6 => seeNN6 s
  | .n7 => .next (respondChainN s)

/-! ## EQO (R195) -/

/-- Q0 is over when both engines are: the position moves to Q1. -/
def leaveQ0 (s : State) : State :=
  if s.seeA.pos = .idle ∧ s.seeN.pos = .idle then goQ .q1 s else s

/-- A step of SEE-A inside Q0. At A7, where its steps A0 to A6 are at their end, it does not respond but its
output is copied: `Q.OA <- A.S` (R195). -/
def seeAInCheck (s : State) : Result :=
  match s.seeA.pos with
  | .a7 => .next (leaveQ0 (goA .idle (s.setEqo { s.eqo with oa := s.seeA.s })))
  | _ => seeAStep s

/-- A step of SEE-N inside Q0; at N7 its output is copied: `Q.ON <- V[0]` (R195). -/
def seeNInCheck (s : State) : Result :=
  match s.seeN.pos with
  | .n7 => .next (leaveQ0 (goN .idle (s.setEqo { s.eqo with on := readReg s (.v 0) })))
  | _ => seeNStep s

/-- The engine that steps in Q0: the one whose turn it is, or the other where that one has ended (R196). -/
def engineToStep (s : State) : Engine :=
  if s.seeA.pos = .idle then .seeN
  else if s.seeN.pos = .idle then .seeA
  else s.turns.headD .seeA

/-- Q0: one step of one of the two engines; "any interleaving of their steps" is allowed (R196). -/
def eqoQ0 (s : State) : Result :=
  match engineToStep s with
  | .seeA => seeAInCheck (s.setTurns s.turns.tail)
  | .seeN => seeNInCheck (s.setTurns s.turns.tail)

/-- One step of EQO. -/
def eqoStep (s : State) : Result :=
  match s.eqo.pos with
  | .idle => .next s
  | .q0 => eqoQ0 s
  | .q1 => execEqoCompare .q1 s
  | .q2 => execEqoCompare .q2 s
  | .q3 => .next (respondCheck s)
  | .q4 => .next (raiseMismatch s.eqo.oa s.eqo.on s.eqo.diff s)

/-! ## The dispatcher -/

/-- One sequencer step of the operation in progress, selected by `OPR.OP` (R27, R76). -/
def tick (s : State) : Result :=
  match opOfCode s.opr.op with
  | .expand => kseStep s
  | .chainA => seeAStep s
  | .chainN => seeNStep s
  | .check => eqoStep s

/-- At most `k` sequencer steps, ending with the respond event. -/
def runTicks : Nat → State → Result
  | 0, s => .next s
  | k + 1, s => if s.mode = .busy then andThen (tick s) (runTicks k) else .next s

end Sys2Proof.Machine
end

