-- ==== Sys2Proof/Machine/Operations.lean ====
section
/-!
DEFINITION. The four operations (`30_encoding.md` rule R70) as instructions: a request is accepted where
`CORE.MODE = READY`, its step table runs to the respond event, and "While `ready = 0` a request is simply not
accepted; it is not an error and leaves no trace" (rule R74).
-/

namespace Sys2Proof.Machine

/-! ## Acceptance -/

/-- Accept EXPAND: it is not refused for want of the capability (R131). -/
def startExpand (key : V128) (s : State) : Result := .next (acceptExpand key s)

/-- Accept CHAIN_A on hardware with configuration `cfg` (R151, R216). -/
def startChainA (cfg : Config) (sched : Sched) (block : V128) (n : Nat) (s : State) : Result :=
  andThen (requireAccel cfg s) fun t => .next (acceptChainA sched block n t)

/-- Accept CHAIN_N on hardware with configuration `cfg` (R171, R216). -/
def startChainN (cfg : Config) (sched : Sched) (block : V128) (n : Nat) (s : State) : Result :=
  andThen (requireAccel cfg s) fun t => .next (acceptChainN sched block n t)

/-- Accept CHECK on hardware with configuration `cfg` (R191, R216). -/
def startCheck (cfg : Config) (sched : Sched) (block : V128) (n : Nat) (s : State) : Result :=
  andThen (requireAccel cfg s) fun t => .next (acceptCheck sched block n t)

/-- The accept event alone, for the request on the ports (R74). -/
def startRequest (cfg : Config) (p : Request) (s : State) : Result :=
  match opOfCode p.op with
  | .expand => startExpand p.key s
  | .chainA => startChainA cfg (unpackSched p.sched) p.block p.n s
  | .chainN => startChainN cfg (unpackSched p.sched) p.block p.n s
  | .check => startCheck cfg (unpackSched p.sched) p.block p.n s

/-! ## Step counts (R251) -/

def expandTicks : Nat := 32
def chainATicks (n : Nat) : Nat := 3 + 22 * n
def chainNTicks (n : Nat) : Nat := 6 + 12 * n
def checkTicks (n : Nat) : Nat := 12 + 34 * n

/-- A request: accepted by `start` where `ready = 1` and run for `ticks` steps; else no trace (R74). -/
def transact (start : State → Result) (ticks : Nat) (s : State) : Result :=
  if s.mode = .ready then andThen (start s) (runTicks ticks) else .next s

/-! ## The operations on hardware with configuration `cfg` -/

def expandOn (key : V128) (s : State) : Result := transact (startExpand key) expandTicks s

def chainAOn (cfg : Config) (sched : Sched) (block : V128) (n : Nat) (s : State) : Result :=
  transact (startChainA cfg sched block n) (chainATicks n) s

def chainNOn (cfg : Config) (sched : Sched) (block : V128) (n : Nat) (s : State) : Result :=
  transact (startChainN cfg sched block n) (chainNTicks n) s

def checkOn (cfg : Config) (sched : Sched) (block : V128) (n : Nat) (s : State) : Result :=
  transact (startCheck cfg sched block n) (checkTicks n) s

/-! ## The instructions -/

/-- EXPAND (R131). -/
def execExpand (key : V128) (s : State) : Result := expandOn key s

/-- CHAIN_A (R151). -/
def execChainA (sched : Sched) (block : V128) (n : Nat) (s : State) : Result :=
  chainAOn Config.hardware sched block n s

/-- CHAIN_N (R171). -/
def execChainN (sched : Sched) (block : V128) (n : Nat) (s : State) : Result :=
  chainNOn Config.hardware sched block n s

/-- CHECK (R191). -/
def execCheck (sched : Sched) (block : V128) (n : Nat) (s : State) : Result :=
  checkOn Config.hardware sched block n s

end Sys2Proof.Machine
end

