-- ==== Sys2Proof/Machine/Pseudo.lean ====
section
/-!
DEFINITION. The three pseudo-operations (`30_encoding.md` rule R80): the requester issues EXPAND, takes
`rsp_ek` from the response and passes it back as the schedule of the second request.
-/

namespace Sys2Proof.Machine

/-- POT_A: `EXPAND <key> -> ek, dk ; CHAIN_A ek, <block>, <n>` (R80). -/
def execPotA (key block : V128) (n : Nat) (s : State) : Result :=
  andThen (execExpand key s) fun t => execChainA t.rsp.ek block n t

/-- POT_N: `EXPAND <key> -> ek, dk ; CHAIN_N ek, <block>, <n>` (R80). -/
def execPotN (key block : V128) (n : Nat) (s : State) : Result :=
  andThen (execExpand key s) fun t => execChainN t.rsp.ek block n t

/-- POT_CHECK: `EXPAND <key> -> ek, dk ; CHECK ek, <block>, <n>` (R80). -/
def execPotCheck (key block : V128) (n : Nat) (s : State) : Result :=
  andThen (execExpand key s) fun t => execCheck t.rsp.ek block n t

end Sys2Proof.Machine
end

