-- ==== Sys2Proof/Machine/Dispatch.lean ====
section
/-!
DEFINITION. The dispatcher: one arm for each instruction.
-/

namespace Sys2Proof.Machine

def exec (i : Instr) (s : State) : Host.Outcome State Fault Refusal :=
  match i with
  -- the operations
  | .expand key => Sys2Proof.Machine.execExpand key s
  | .chainA sched block n => Sys2Proof.Machine.execChainA sched block n s
  | .chainN sched block n => Sys2Proof.Machine.execChainN sched block n s
  | .check sched block n => Sys2Proof.Machine.execCheck sched block n s
  -- the micro-operations
  | .xor128 d a b => Sys2Proof.Machine.execXor128 d a b s
  | .subbytes d x => Sys2Proof.Machine.execSubbytes d x s
  | .shiftrows d x => Sys2Proof.Machine.execShiftrows d x s
  | .mixcolumns d x => Sys2Proof.Machine.execMixcolumns d x s
  | .invmixcolumns d x => Sys2Proof.Machine.execInvmixcolumns d x s
  | .round d x k => Sys2Proof.Machine.execRound d x k s
  | .finalround d x k => Sys2Proof.Machine.execFinalround d x k s
  | .keystep d p r => Sys2Proof.Machine.execKeystep d p r s
  -- sequencer control
  | .kseLoop site => Sys2Proof.Machine.execKseLoop site s
  | .seeaLoop site => Sys2Proof.Machine.execSeeaLoop site s
  | .seenLoop site => Sys2Proof.Machine.execSeenLoop site s
  | .eqoCompare site => Sys2Proof.Machine.execEqoCompare site s
  -- the pseudo-operations
  | .potA key block n => Sys2Proof.Machine.execPotA key block n s
  | .potN key block n => Sys2Proof.Machine.execPotN key block n s
  | .potCheck key block n => Sys2Proof.Machine.execPotCheck key block n s

end Sys2Proof.Machine
end

