-- ==== Sys2Proof/Machine/Input.lean ====
section
/-!
DEFINITION. What one event of the requester does (`70_reset_and_hazards.md` rule R247), mode by mode.
-/

namespace Sys2Proof.Machine

/-- The requester's event of this step; nothing where it has none in store (log entry 5). -/
def nextEvent (s : State) : HostEvent := s.inputs.headD .idle

/-- The state once the event of this step is taken from the store. -/
def dropEvent (s : State) : State := s.setInputs s.inputs.tail

/-- An event in READY: a request is accepted, and a call runs to its response (R74, R247). -/
def readyStep (e : HostEvent) (s : State) : Result :=
  match e with
  | .idle => .next s
  | .reset => .next (resetEvent s)
  | .present p => startRequest Config.hardware p s
  | .call l => exec (decode l) s

/-- An event in BUSY: reset abandons the operation (R240, U11); anything else leaves the running operation
alone, a request is not accepted, and the sequencer takes its next step (R26, R74, R247). -/
def busyStep (e : HostEvent) (s : State) : Result :=
  match e with
  | .reset => .next (resetEvent s)
  | .idle => tick s
  | .present _ => tick s
  | .call _ => tick s

/-- An event in FATAL: only reset does anything (R215). -/
def fatalStep (e : HostEvent) (s : State) : Result :=
  match e with
  | .reset => .next (resetEvent s)
  | .idle => .next s
  | .present _ => .next s
  | .call _ => .next s

/-- The machine with one event applied. -/
def stepOn (e : HostEvent) (s : State) : Result :=
  match s.mode with
  | .ready => readyStep e s
  | .busy => busyStep e s
  | .fatal => fatalStep e s

/-! ## The output ports -/

/-- `rsp_ek` as it lies on its port (R73). -/
def rspEkPort (s : State) : BitVec 1408 := packSched s.rsp.ek

/-- `rsp_dk` as it lies on its port (R73). -/
def rspDkPort (s : State) : BitVec 1408 := packSched s.rsp.dk

end Sys2Proof.Machine
end

