-- ==== Sys2Proof/Machine/Step.lean ====
section
/-!
DEFINITION. One step of the machine: the requester's next event, applied in the present mode. The CORE
fetches no instructions (`10_state.md` rule R26); its instructions come from the requester.
-/

namespace Sys2Proof.Machine

/-- One step. -/
def step (s : State) : Host.Outcome State Fault Refusal :=
  stepOn (nextEvent s) (dropEvent s)

/-- The state with the request of a table word as the requester's next event, a synchronous call, so that
the very next step in READY accepts and runs it (log entry 5). -/
def State.withFetchWord (s : State) (nbits w : Nat) : State :=
  s.setInputs (.call (.op (tableRequest nbits w)) :: s.inputs)

end Sys2Proof.Machine
end

