-- ==== Sys2Proof/Safety.lean ====
section
/-!
DEFINITION. What counts as a good state and a good run, in the terms the claims use: how a run ends
(`70_reset_and_hazards.md` rule R248), the control invariant `CtlInv` (`10_state.md` rules R26, R28 to R32, R34,
R37, `40_aes_primitives.md` rule R115), and the invariant `Correct`, which adds the loop invariants of the step
tables (`41_key_schedule.md` rule R136, `42_engine_accelerated.md` rule R157, `43_engine_native.md` rule R177).
-/

namespace Sys2Proof.Machine

/-- An event that issues a request (R247). -/
def HostEvent.isRequest : HostEvent → Bool
  | .idle => false
  | .reset => false
  | .present _ => true
  | .call _ => true

/-- Whether requests of the run are still to come. -/
def requestsLeft (s : State) : Bool := s.inputs.any HostEvent.isRequest

/-- "It has ended well when the last request's respond event has occurred with `rsp_status = 0` and `CORE.MODE =
READY`" (R248): no request of the run is to come, the last accepted one has responded OK, and the CORE is ready. A run
with no request, and one whose last request reset abandoned, has not. -/
def EndedWell (s : State) : Prop := s.mode = .ready ∧ s.last = .responded 0 ∧ requestsLeft s = false

/-- A run has ended badly, "and is never to be counted as final" (R248). -/
def EndedBadly (s : State) : Prop := s.mode = .fatal

/-- "It has not ended while `CORE.MODE = BUSY`" (R248). -/
def StillRunning (s : State) : Prop := s.mode = .busy

/-! ## What instructions leave alone -/

/-- What a micro-operation with result `d` leaves unchanged: every other register of every unit, the latch with
the round-key array, counters, flags, positions, mode, fatal record and ports (R100). -/
def MicroFrame (d : VReg) (s t : State) : Prop :=
  (∀ r, r ≠ d → readReg t r = readReg s r) ∧
  t.opr = s.opr ∧ t.mode = s.mode ∧
  t.kse.r = s.kse.r ∧ t.kse.pos = s.kse.pos ∧
  t.seeA.i = s.seeA.i ∧ t.seeA.r = s.seeA.r ∧ t.seeA.pos = s.seeA.pos ∧
  t.seeN.c = s.seeN.c ∧ t.seeN.pos = s.seeN.pos ∧
  t.eqo = s.eqo ∧ t.fr = s.fr ∧ t.rsp = s.rsp ∧
  t.free = s.free ∧ t.turns = s.turns ∧ t.inputs = s.inputs ∧ t.last = s.last

/-- SEE-A's registers after an operation that ran it for `n` iterations to the output `out`: `A.I` has counted
down, and `A.R` is 9 after any iteration and untouched without one (R155). -/
def seeADone (a : SeeA) (n : Nat) (out : V128) : SeeA :=
  { s := out, i := 0, r := if n = 0 then a.r else 9, pos := .idle }

/-- SEE-N's registers after an operation that ran it to the output `out` (R28, R175). -/
def seeNDone (k : Sched) (out : V128) : SeeN :=
  { v := #v[out, entry k 1, entry k 2, entry k 3, entry k 4, entry k 5, entry k 6, entry k 7, entry k 8,
      entry k 9, combinedKey k, entry k 0]
    c := 0
    pos := .idle }

/-- How many sequencer steps a request takes from acceptance to response (R251). -/
def requestTicks (p : Request) : Nat :=
  match opOfCode p.op with
  | .expand => expandTicks
  | .chainA => chainATicks p.n
  | .chainN => chainNTicks p.n
  | .check => checkTicks p.n

/-- How many respond events an instruction has: one for an operation, two for a pseudo-operation (R74, R80). -/
def responsesOf : Instr → Nat
  | .potA _ _ _ => 2
  | .potN _ _ _ => 2
  | .potCheck _ _ _ => 2
  | i => if i.isMicro then 0 else 1

/-- How many engine steps of Q0 an instruction runs: both engines without their respond steps, and the two copies
(R195, R198). -/
def turnsOf : Instr → Nat
  | .check _ _ n => 9 + 34 * n
  | .potCheck _ _ n => 9 + 34 * n
  | _ => 0

/-! ## The control invariant -/

/-- KSE's round index: 1..10 inside the loop (R31, R135). -/
def kseCtl (k : Kse) : Bool :=
  match k.pos with
  | .idle => true
  | .k0 => true
  | .k1 => 1 ≤ k.r.toNat && k.r.toNat ≤ 10
  | .k2 => 1 ≤ k.r.toNat && k.r.toNat ≤ 10
  | .k3 => 1 ≤ k.r.toNat && k.r.toNat ≤ 10
  | .k4 => k.r == 10

/-- SEE-A's counters: `A.I` non-zero inside an iteration, `A.R` in 1..9 (R30, R115, R156). -/
def seeACtl (a : SeeA) : Bool :=
  match a.pos with
  | .idle => true
  | .a0 => true
  | .a1 => true
  | .a2 => a.i != 0
  | .a3 => a.i != 0 && 1 ≤ a.r.toNat && a.r.toNat ≤ 9
  | .a4 => a.i != 0 && 1 ≤ a.r.toNat && a.r.toNat ≤ 9
  | .a5 => a.i != 0 && a.r == 9
  | .a6 => a.i != 0
  | .a7 => a.i == 0

/-- SEE-N's counter: `N.C` non-zero inside the counted branch (R29, R176). -/
def seeNCtl (n : SeeN) : Bool :=
  match n.pos with
  | .idle => true
  | .n0 => true
  | .n1 => true
  | .n2 => true
  | .nt => true
  | .n3 _ => n.c != 0
  | .n4 => n.c != 0
  | .n5 => n.c != 0
  | .n6 => n.c == 0
  | .n7 => n.c == 0

/-- EQO's flags after the steps that write them (R32, R195). -/
def eqoCtl (q : Eqo) : Bool :=
  match q.pos with
  | .idle => true
  | .q0 => true
  | .q1 => true
  | .q2 => q.matched == matchFlag q.oa q.on
  | .q3 => q.oa == q.on
  | .q4 => q.oa != q.on && q.diff == diffIndex q.oa q.on

/-- Which sequencers are at a step: none outside BUSY; in BUSY the one of the unit that `OPR.OP` selects, and
in Q0 of CHECK at least one of the two engines (R34, R195, R240). -/
def positionsCtl (s : State) : Bool :=
  let k := s.kse.pos == .idle
  let a := s.seeA.pos == .idle
  let n := s.seeN.pos == .idle
  let q := s.eqo.pos == .idle
  match s.mode with
  | .ready => k && a && n && q
  | .fatal => k && a && n && q
  | .busy =>
    match opOfCode s.opr.op with
    | .expand => !k && a && n && q
    | .chainA => k && !a && n && q
    | .chainN => k && a && !n && q
    | .check => k && !q && (if s.eqo.pos = .q0 then !(a && n) else a && n)

/-- `FR.VALID = 1` exactly when `CORE.MODE = FATAL`, and then the record tells of a mismatch (R37, R211). -/
def frCtl (s : State) : Bool :=
  (s.fr.valid == (s.mode == .fatal)) &&
    (!s.fr.valid || (s.fr.cause == 1 && s.fr.oa != s.fr.on && s.fr.diff == diffIndex s.fr.oa s.fr.on))

/-- The last accepted request of the run is under way exactly in BUSY, and in FATAL it has answered MISMATCH (R34,
R213, R248). -/
def lastCtl (s : State) : Bool :=
  ((s.last == .running) == (s.mode == .busy)) && (!(s.mode == .fatal) || s.last == .responded 1)

/-- The control invariant. -/
def CtlInv (s : State) : Prop :=
  (kseCtl s.kse && seeACtl s.seeA && seeNCtl s.seeN && eqoCtl s.eqo && positionsCtl s && frCtl s && lastCtl s) = true

/-! ## The width of the counters -/

/-- Whether hardware with this `CNT_W` has the event: the counts of its requests are expressible on `req_n` (R245). -/
def HostEvent.expressible (cntW : Nat) : HostEvent → Bool
  | .idle => true
  | .reset => true
  | .present p => (decodeRequest p).expressible cntW
  | .call l => (decode l).expressible cntW

/-- Every count in the machine fits in `CNT_W` bits: `OPR.N`, `A.I` and `N.C` (R27, R29, R30), and the counts of the
requests to come. -/
def CountsFit (cntW : Nat) (s : State) : Prop :=
  s.opr.n < 2 ^ cntW ∧ s.seeA.i < 2 ^ cntW ∧ s.seeN.c < 2 ^ cntW ∧
    ∀ e ∈ s.inputs, HostEvent.expressible cntW e = true

/-! ## The data invariant: what the registers hold at each step of the operation in progress -/

/-- `KSE.EK[j] = ek[j]` for `j < m` (R136). -/
def ekDone (key : V128) (k : Kse) (m : Nat) : Bool :=
  (List.range m).all fun j => entry k.ek j == ekOf key j

/-- `KSE.DK[j] = dk[j]` for `j < m` (R136). -/
def dkDone (key : V128) (k : Kse) (m : Nat) : Bool :=
  (List.range m).all fun j => entry k.dk j == dkOf key j

/-- KSE's loop invariant: "after K1 at index `r`, `EK[0..r]` equal `ek[0..r]`" (R136). -/
def kseData (l : OperandLatch) (k : Kse) : Bool :=
  match k.pos with
  | .idle => true
  | .k0 => true
  | .k1 => ekDone l.key k k.r.toNat && dkDone l.key k k.r.toNat
  | .k2 => ekDone l.key k (k.r.toNat + 1) && dkDone l.key k k.r.toNat
  | .k3 => ekDone l.key k (k.r.toNat + 1) && dkDone l.key k (k.r.toNat + 1)
  | .k4 => ekDone l.key k 11 && dkDone l.key k 11

/-- SEE-A's loop invariant: at each arrival at A1 with `A.I = n - j`, `A.S = CHAIN(RK, OPR.BLOCK, j)`, and inside
an iteration the state of the rounds done (R157). -/
def seeAData (l : OperandLatch) (a : SeeA) : Bool :=
  let c := chain l.rk l.block (l.n - a.i)
  let within := a.i ≤ l.n
  match a.pos with
  | .idle => true
  | .a0 => true
  | .a1 => within && a.s == c
  | .a2 => within && a.s == c
  | .a3 => within && a.s == encRounds l.rk c (a.r.toNat - 1)
  | .a4 => within && a.s == encRounds l.rk c a.r.toNat
  | .a5 => within && a.s == encRounds l.rk c 9
  | .a6 => within && a.s == enc l.rk c
  | .a7 => a.s == chain l.rk l.block l.n

/-- The round-key registers of SEE-N once N0 is done: `V[r] = RK[r]`, `V[10] = RK[10] ^ RK[0]`, `V[11] = RK[0]`
(R28, R177). -/
def keysLoaded (l : OperandLatch) (n : SeeN) : Bool :=
  (List.range 9).all (fun j => n.v[j + 1]? == some (entry l.rk (j + 1))) &&
    n.v[10] == combinedKey l.rk && n.v[11] == entry l.rk 0

/-- SEE-N's loop invariant: at every arrival at NT, with `j = OPR.N - N.C`, `V[0] = CHAIN(RK, OPR.BLOCK, j) ^ RK[0]`,
and inside a pass the state of the rounds done (R177). -/
def seeNData (l : OperandLatch) (n : SeeN) : Bool :=
  let c := chain l.rk l.block (l.n - n.c)
  let within := keysLoaded l n && n.c ≤ l.n
  match n.pos with
  | .idle => true
  | .n0 => true
  | .n1 => keysLoaded l n
  | .n2 => keysLoaded l n && n.c == l.n
  | .nt => within && n.v[0] == xor128 c (entry l.rk 0)
  | .n3 j => within && n.v[0] == encRounds l.rk c j.val
  | .n4 => within && n.v[0] == encRounds l.rk c 9
  | .n5 => within && n.v[0] == xor128 (enc l.rk c) (entry l.rk 0)
  | .n6 => keysLoaded l n && n.v[0] == xor128 (chain l.rk l.block l.n) (entry l.rk 0)
  | .n7 => keysLoaded l n && n.v[0] == chain l.rk l.block l.n

/-- EQO's invariant: an engine that has ended in Q0 left `CHAIN(RK, OPR.BLOCK, OPR.N)`, so the two outputs are
equal and Q4 is never reached (R193). -/
def eqoData (s : State) : Bool :=
  let out := chain s.opr.rk s.opr.block s.opr.n
  match s.eqo.pos with
  | .idle => true
  | .q0 => (s.seeA.pos != .idle || s.eqo.oa == out) && (s.seeN.pos != .idle || s.eqo.on == out)
  | .q1 => s.eqo.oa == out && s.eqo.on == out
  | .q2 => s.eqo.oa == out && s.eqo.on == out
  | .q3 => s.eqo.oa == out && s.eqo.on == out
  | .q4 => false

/-- The state of a CORE that computes what its contracts say: the control invariant, no fatal defect, and the
loop invariants of the sequencers that are at a step. -/
def Correct (s : State) : Prop :=
  CtlInv s ∧ s.mode ≠ .fatal ∧
    (kseData s.opr s.kse && seeAData s.opr s.seeA && seeNData s.opr s.seeN && eqoData s) = true

end Sys2Proof.Machine
end

