-- ==== Sys2Proof/Certificates/Slice0/Obligations.lean ====
section
/-!
DEFINITION. The statements for the provers. Each docstring names the rules of the spec it rests on.
-/

open Sys2Proof Sys2Proof.Machine

/-! ## Reset and the invariants -/

/-- R240: the reset event in any mode, whatever operation is in progress, leaves `CORE.MODE = READY`, `FR.VALID = 0`
and every sequencer at no step, with no respond event for an abandoned operation (`free` counts those); the state
after reset has the same values. -/
def Obligations.ResetLeavesReadyFromEveryMode : Prop :=
  (∀ s : State, nextEvent s = .reset →
    ∃ t, step s = .next t ∧ t.mode = .ready ∧ t.ready = true ∧ t.fatal = false ∧ t.fr.valid = false ∧
      t.kse.pos = .idle ∧ t.seeA.pos = .idle ∧ t.seeN.pos = .idle ∧ t.eqo.pos = .idle ∧ t.free = s.free) ∧
  State.reset.mode = .ready ∧ State.reset.ready = true ∧ State.reset.fatal = false ∧
  State.reset.fr.valid = false ∧ State.reset.kse.pos = .idle ∧ State.reset.seeA.pos = .idle ∧
  State.reset.seeN.pos = .idle ∧ State.reset.eqo.pos = .idle

/-- The state after reset satisfies both invariants, and no run has ended well in it; a reset event ends no run badly,
and a run has ended well after one only where its last request had responded OK before (R248). -/
def Obligations.ResetStateIsCorrect : Prop :=
  CtlInv State.reset ∧ Correct State.reset ∧ ¬ EndedWell State.reset ∧
  (∀ s t : State, nextEvent s = .reset → step s = .next t →
    ¬ EndedBadly t ∧
    (EndedWell t ↔ s.mode ≠ .busy ∧ s.last = .responded 0 ∧ requestsLeft t = false))

/-- Every step keeps the control invariant (R30, R31, R34, R37, R115): counters in range, exactly the sequencer of
the selected unit at a step, the fatal record valid exactly in FATAL. For every `CNT_W` (R8), where the counts in the
machine and in the requests to come fit in that many bits they fit after every step: no counter needs a wider register
(R29, R30). -/
def Obligations.StepKeepsControlInvariant : Prop :=
  (∀ s t : State, CtlInv s → step s = .next t → CtlInv t) ∧
  (∀ (w : Nat) (s t : State), CountsFit w s → step s = .next t → CountsFit w t)

/-- Every step keeps the loop invariants of the step tables (R136, R157, R177), so that no step of a correct CORE
leads to FATAL (R193). -/
def Obligations.StepKeepsLoopInvariants : Prop :=
  ∀ s t : State, Correct s → step s = .next t → Correct t

/-- From a state that satisfies the control invariant no step faults and none is refused: an index that a sequencer
forms always names an entry (R57), and no operation of this hardware stops for want of the capability (R210, R216). -/
def Obligations.StepFromInvariantAnswersNext : Prop :=
  ∀ s : State, CtlInv s → ∃ t, step s = .next t

/-! ## Decoding and encoding -/

/-- R76, R77: the code selects the operation and the unit that runs it, and nothing else does; every code is assigned,
and every line of a program decodes to a well-formed instruction. -/
def Obligations.OperationCodeSelectsOperation : Prop :=
  (∀ p : Request,
    (p.op = 0#2 → decodeRequest p = .expand p.key) ∧
    (p.op = 1#2 → decodeRequest p = .chainA (unpackSched p.sched) p.block p.n) ∧
    (p.op = 2#2 → decodeRequest p = .chainN (unpackSched p.sched) p.block p.n) ∧
    (p.op = 3#2 → decodeRequest p = .check (unpackSched p.sched) p.block p.n)) ∧
  (∀ s : State,
    (s.opr.op = 0#2 → tick s = kseStep s) ∧ (s.opr.op = 1#2 → tick s = seeAStep s) ∧
    (s.opr.op = 2#2 → tick s = seeNStep s) ∧ (s.opr.op = 3#2 → tick s = eqoStep s)) ∧
  (∀ c : BitVec 2, ∃ o, codeOfOp o = c ∧ opOfCode c = o) ∧
  (∀ l : Line, (decode l).wf = true)

/-- R72, R73: the bits each byte of a schedule occupies on its port, and packing loses nothing. -/
def Obligations.SchedulePortHoldsItsBytes : Prop :=
  (∀ (x : BitVec 1408) (r i : Nat), r < 11 → i < 16 →
    entry (unpackSched x) r = x.extractLsb' (128 * r) 128 ∧
    byte (entry (unpackSched x) r) i = x.extractLsb' (128 * r + 8 * i) 8) ∧
  (∀ x : BitVec 1408, packSched (unpackSched x) = x) ∧
  (∀ k : Sched, unpackSched (packSched k) = k)

/-- R72: a port an operation does not use has no effect, neither on a call nor on the accept event. -/
def Obligations.UnusedPortsHaveNoEffect : Prop :=
  ∀ (p q : Request) (s : State) (rest : List HostEvent),
    p.op = q.op → (p.op = 0#2 → p.key = q.key) →
    (p.op ≠ 0#2 → p.sched = q.sched ∧ p.block = q.block ∧ p.n = q.n) →
    step (s.setInputs (.call (.op p) :: rest)) = step (s.setInputs (.call (.op q) :: rest)) ∧
    step (s.setInputs (.present p :: rest)) = step (s.setInputs (.present q :: rest))

/-- Decoding gives back every instruction that has an encoding, with every operand; a micro-operation has none
(R72, R76, R78, R80). On the ports of hardware with any `CNT_W` (R8): every operation whose count is below `2^CNT_W` comes
back, ports carry no other count, and 1,000,000 is below for every `CNT_W` the spec allows. -/
def Obligations.DecodeOfEncodeIsIdentity : Prop :=
  (∀ i : Instr,
    (i.isMicro = false → ∃ l, encode i = some l ∧ decode l = i) ∧ (i.isMicro = true → encode i = none)) ∧
  (∀ (w : Nat) (i : Instr) (p : Request), encode i = some (.op p) → i.expressible w = true →
    decodePorts (p.ports w) = i) ∧
  (∀ (w : Nat) (q : Ports w), (decodePorts q).expressible w = true) ∧
  (∀ (cfg : Config) (k : Sched) (b : V128), cfg.legal →
    (Instr.chainA k b 1000000).expressible cfg.cntW = true ∧ (Instr.chainN k b 1000000).expressible cfg.cntW = true ∧
    (Instr.check k b 1000000).expressible cfg.cntW = true)

/-- The byte image of a request, which is the model's own layout (log entry 6), decodes for every `CNT_W` to the
request's instruction and leaves the bytes after it, where the count is expressible; a shorter list of bytes is refused
by name. -/
def Obligations.RequestImageRoundTrip : Prop :=
  (∀ (w : Nat) (p : Request) (rest : List Byte), p.n < 2 ^ w →
    decodeBytes w (encodeBytes w p ++ rest) = .ok (decodeRequest p, rest)) ∧
  (∀ (w : Nat) (bs : List Byte), bs.length < requestBytes w → decodeBytes w bs = .error .truncated)

/-- The four operation rows of the opcode table decode to their operations (R76; zero operands). -/
def Obligations.TableWordsDecode : Prop :=
  decodeTableWord 8 0 = some (.expand 0) ∧
  decodeTableWord 8 1 = some (.chainA zeroSched 0 0) ∧
  decodeTableWord 8 2 = some (.chainN zeroSched 0 0) ∧
  decodeTableWord 8 3 = some (.check zeroSched 0 0)

/-! ## Steps -/

/-- In READY a step that finds a call runs exactly the decoded instruction, on the state without that event; and
`withFetchWord` places the instruction of a table word so. -/
def Obligations.StepRunsTheCalledInstruction : Prop :=
  (∀ (s : State) (l : Line) (rest : List HostEvent),
    s.mode = .ready → s.inputs = .call l :: rest → step s = exec (decode l) (s.setInputs rest)) ∧
  (∀ (s : State) (nbits w : Nat) (i : Instr),
    s.mode = .ready → decodeTableWord nbits w = some i → step (s.withFetchWord nbits w) = exec i s)

/-- R26, R74, R247: in BUSY a step is one sequencer step, whatever the requester does short of reset; a request is
not accepted and leaves no trace. -/
def Obligations.BusyStepIsASequencerStep : Prop :=
  ∀ s : State, s.mode = .busy → nextEvent s ≠ .reset → step s = tick (dropEvent s)

/-- R74, R215: an operation or pseudo-operation issued while `ready = 0` is not accepted and leaves no trace; in FATAL no
event of the requester but reset changes the CORE. -/
def Obligations.RequestWhileNotReadyLeavesNoTrace : Prop :=
  (∀ (i : Instr) (s : State), i.isMicro = false → s.ready = false → exec i s = .next s) ∧
  (∀ s : State, s.fatal = true → nextEvent s ≠ .reset → step s = .next (dropEvent s))

/-- R34: how `CORE.MODE` changes in a step without reset: from READY to BUSY exactly by accepting a request (a call, log
entry 5, is back in READY within its step), from BUSY to READY with a response of status OK, from BUSY to FATAL only
at Q4 of CHECK with a response of status MISMATCH, and never out of FATAL. -/
def Obligations.ModeChangesOnlyAsRuled : Prop :=
  ∀ s t : State, step s = .next t → nextEvent s ≠ .reset →
    (s.mode = .ready → (t.mode = .busy ↔ ∃ p, nextEvent s = .present p) ∧ t.mode ≠ .fatal) ∧
    (s.mode = .busy →
      t.mode = .busy ∨ (t.mode = .ready ∧ t.free = s.free + 1 ∧ t.rsp.status = 0) ∨
      (t.mode = .fatal ∧ t.free = s.free + 1 ∧ t.rsp.status = 1 ∧ s.opr.op = 3#2 ∧ s.eqo.pos = .q4)) ∧
    (s.mode = .fatal → t.mode = .fatal ∧ t.fr = s.fr)

/-- R27, R74: the accept event copies the operands of the request into the latch, sets `CORE.MODE <- BUSY`, starts the
sequencer and changes nothing else of the CORE; the model's own record of the run says that a request runs (log entry
18). -/
def Obligations.AcceptLatchesOperands : Prop :=
  ∀ (s : State) (p : Request), s.mode = .ready →
    (p.op = 0#2 → step (s.setInputs (.present p :: s.inputs)) =
      .next { s with mode := .busy, last := .running, opr := { s.opr with op := 0, key := p.key }, kse.pos := .k0 }) ∧
    (p.op = 1#2 → step (s.setInputs (.present p :: s.inputs)) =
      .next { s with
        mode := .busy, last := .running, seeA.pos := .a0
        opr := { op := 1, key := s.opr.key, rk := unpackSched p.sched, block := p.block, n := p.n } }) ∧
    (p.op = 2#2 → step (s.setInputs (.present p :: s.inputs)) =
      .next { s with
        mode := .busy, last := .running, seeN.pos := .n0
        opr := { op := 2, key := s.opr.key, rk := unpackSched p.sched, block := p.block, n := p.n } }) ∧
    (p.op = 3#2 → step (s.setInputs (.present p :: s.inputs)) =
      .next { s with
        mode := .busy, last := .running, seeA.pos := .a0, seeN.pos := .n0, eqo.pos := .q0
        opr := { op := 3, key := s.opr.key, rk := unpackSched p.sched, block := p.block, n := p.n } })

/-- R22, R27, R244: while an operation runs no step but reset changes the operand latch or the round-key array. -/
def Obligations.OperandLatchIsConstantWhileBusy : Prop :=
  ∀ s t : State, s.mode = .busy → nextEvent s ≠ .reset → step s = .next t → t.opr = s.opr

/-- R26, R136, R157, R178, R198: a request presented and then run one sequencer step at a time, for at least as many
steps as it takes, ends in the very state in which the same request issued as a call ends. -/
def Obligations.PresentedRequestRunsLikeACall : Prop :=
  ∀ (s : State) (p : Request) (k : Nat), s.mode = .ready → requestTicks p ≤ k →
    Host.Core.run core (1 + k) (s.setInputs [.present p]) = step (s.setInputs [.call (.op p)])

/-- R136, R157, R178, R198, R251: a request is BUSY after acceptance and after every sequencer step short of its step
count, and at that count it has responded, once. R248: the run of that one request has not ended before, and has ended
well then. -/
def Obligations.RequestRespondsAfterItsStepCount : Prop :=
  ∀ (s : State) (p : Request), s.mode = .ready →
    (∀ j, j < requestTicks p →
      ∃ t : State, Host.Core.run core (1 + j) (s.setInputs [.present p]) = .next t ∧
        t.mode = .busy ∧ t.free = s.free ∧ StillRunning t ∧ ¬ EndedWell t ∧ ¬ EndedBadly t) ∧
    (∃ t : State, Host.Core.run core (1 + requestTicks p) (s.setInputs [.present p]) = .next t ∧
      t.mode = .ready ∧ t.rsp.status = 0 ∧ t.free = s.free + 1 ∧
      EndedWell t ∧ ¬ StillRunning t ∧ ¬ EndedBadly t)

/-! ## The operations -/

/-- R131, R132, R133: EXPAND answers a next state with both schedules on the ports and in KSE's files, entry by entry
as the rules give them, and changes nothing that an engine reads. -/
def Obligations.ExpandComputesBothSchedules : Prop :=
  ∀ (key : V128) (s : State), s.mode = .ready →
    ∃ t, exec (.expand key) s = .next t ∧
      t.rsp.status = 0 ∧ t.rsp.ek = t.kse.ek ∧ t.rsp.dk = t.kse.dk ∧
      entry t.rsp.ek 0 = key ∧ entry t.rsp.dk 0 = key ∧
      (∀ r, 1 ≤ r → r ≤ 10 →
        ∃ rc, rcon r = some rc ∧ entry t.rsp.ek r = keyStep (entry t.rsp.ek (r - 1)) rc) ∧
      (∀ r, 1 ≤ r → r ≤ 9 → entry t.rsp.dk r = invMixColumns (entry t.rsp.ek r)) ∧
      entry t.rsp.dk 10 = entry t.rsp.ek 10 ∧
      t.mode = .ready ∧ t.kse.r = 10 ∧ t.kse.pos = .idle ∧
      t.opr = { s.opr with op := 0, key := key } ∧
      t.seeA = s.seeA ∧ t.seeN = s.seeN ∧ t.eqo = s.eqo ∧ t.fr = s.fr

/-- R134: two EXPANDs of one key give identical schedules whatever the states, round key 0 of both schedules is the
key, and entry 10 of both is the same. -/
def Obligations.ExpandIsDeterministicWithFixedEnds : Prop :=
  ∀ (key : V128) (s u : State), s.mode = .ready → u.mode = .ready →
    ∃ t v, exec (.expand key) s = .next t ∧ exec (.expand key) u = .next v ∧
      t.rsp.ek = v.rsp.ek ∧ t.rsp.dk = v.rsp.dk ∧
      entry t.rsp.ek 0 = key ∧ entry t.rsp.dk 0 = key ∧ entry t.rsp.dk 10 = entry t.rsp.ek 10

/-- R151, R152, R157: CHAIN_A answers `CHAIN(sched, block, n)` for every schedule, block and count, and changes only
SEE-A's registers, the latch and the response. -/
def Obligations.ChainAComputesChain : Prop :=
  ∀ (k : Sched) (b : V128) (n : Nat) (s : State), s.mode = .ready →
    ∃ t, exec (.chainA k b n) s = .next t ∧
      t.rsp.block = chain k b n ∧ t.rsp.status = 0 ∧ t.mode = .ready ∧
      t.seeA = seeADone s.seeA n (chain k b n) ∧
      t.opr = { op := 1, key := s.opr.key, rk := k, block := b, n := n } ∧
      t.kse = s.kse ∧ t.seeN = s.seeN ∧ t.eqo = s.eqo ∧ t.fr = s.fr

/-- R171, R175, R178: CHAIN_N, by its own step table with the combined key, answers the same `CHAIN(sched, block, n)`,
and changes only SEE-N's registers, the latch and the response. -/
def Obligations.ChainNComputesChain : Prop :=
  ∀ (k : Sched) (b : V128) (n : Nat) (s : State), s.mode = .ready →
    ∃ t, exec (.chainN k b n) s = .next t ∧
      t.rsp.block = chain k b n ∧ t.rsp.status = 0 ∧ t.mode = .ready ∧
      t.seeN = seeNDone k (chain k b n) ∧
      t.opr = { op := 2, key := s.opr.key, rk := k, block := b, n := n } ∧
      t.kse = s.kse ∧ t.seeA = s.seeA ∧ t.eqo = s.eqo ∧ t.fr = s.fr

/-- R191, R193, R195: CHECK runs both engines and answers OK with both output blocks, whatever the order the engines
step in; it never raises EquivalenceMismatch. -/
def Obligations.CheckAnswersOkWithBothBlocks : Prop :=
  ∀ (k : Sched) (b : V128) (n : Nat) (s : State), s.mode = .ready →
    ∃ t, exec (.check k b n) s = .next t ∧
      t.rsp.status = 0 ∧ t.rsp.block = chain k b n ∧ t.rsp.blockN = chain k b n ∧
      t.mode = .ready ∧
      t.eqo = { s.eqo with oa := chain k b n, on := chain k b n, matched := true, pos := .idle } ∧
      t.seeA = seeADone s.seeA n (chain k b n) ∧ t.seeN = seeNDone k (chain k b n) ∧
      t.opr = { op := 3, key := s.opr.key, rk := k, block := b, n := n } ∧
      t.kse = s.kse ∧ t.fr = s.fr

/-- R153: with count zero both engines return the input block, and SEE-A touches no round: `A.R` keeps its value. -/
def Obligations.ZeroIterationsReturnTheBlock : Prop :=
  ∀ (k : Sched) (b : V128) (s : State), s.mode = .ready →
    (∃ t, exec (.chainA k b 0) s = .next t ∧ t.rsp.block = b ∧ t.seeA.r = s.seeA.r) ∧
    (∃ t, exec (.chainN k b 0) s = .next t ∧ t.rsp.block = b)

/-- R154: continuing a chain with either engine gives what one longer chain gives, for all counts. -/
def Obligations.ChainingIsMonotonic : Prop :=
  ∀ (k : Sched) (b : V128) (m n : Nat) (s : State), s.mode = .ready →
    ∃ t u v w, exec (.chainA k b m) s = .next t ∧ exec (.chainN k t.rsp.block n) t = .next u ∧
      exec (.chainA k t.rsp.block n) t = .next v ∧ exec (.chainN k b (m + n)) s = .next w ∧
      u.rsp.block = w.rsp.block ∧ v.rsp.block = w.rsp.block

/-- R193: cross-path equivalence, for every schedule, block and count and from any two states that are ready. -/
def Obligations.BothEnginesAgree : Prop :=
  ∀ (k : Sched) (b : V128) (n : Nat) (s u : State), s.mode = .ready → u.mode = .ready →
    ∃ t v, exec (.chainA k b n) s = .next t ∧ exec (.chainN k b n) u = .next v ∧
      t.rsp.block = v.rsp.block

/-- R196, R64: the order in which CHECK steps its two engines changes nothing. -/
def Obligations.EngineInterleavingIsUnobservable : Prop :=
  ∀ (k : Sched) (b : V128) (n : Nat) (s : State) (x y : List Engine), s.mode = .ready →
    ∃ t u, exec (.check k b n) (s.setTurns x) = .next t ∧ exec (.check k b n) (s.setTurns y) = .next u ∧
      t.setTurns [] = u.setTurns []

/-- R25, R39: what an operation answers depends on its operands only, not on the state earlier operations left. The
free values of undefined ports are drawn by the number of the response, so the two states agree in that. -/
def Obligations.ResultsDependOnOperandsOnly : Prop :=
  ∀ (i : Instr) (s u : State), i.isMicro = false → s.mode = .ready → u.mode = .ready → s.free = u.free →
    ∃ t v, exec i s = .next t ∧ exec i u = .next v ∧ t.rsp = v.rsp ∧ t.mode = v.mode

/-- The frame of the operations in the model's own fields (log entries 3, 4, 5, 18): each response takes one number of the
free values, CHECK takes one turn for each step of Q0, no operation touches the requester's coming events, and the last request has responded OK, so that the run has ended well
where no request is to come (R248). -/
def Obligations.OperationsCountResponsesAndTurns : Prop :=
  ∀ (i : Instr) (s : State), i.isMicro = false → s.mode = .ready →
    ∃ t, exec i s = .next t ∧ t.inputs = s.inputs ∧
      t.free = s.free + responsesOf i ∧ t.turns = s.turns.drop (turnsOf i) ∧
      t.last = .responded 0 ∧ (EndedWell t ↔ requestsLeft s = false)

/-- R158, R216: without `HAS_AES_ACCEL` the three engine operations are refused, this hardware has the capability, and
EXPAND does not ask for it. On every configuration that has it, whatever its `CNT_W` (R8), the three are as on this
hardware. -/
def Obligations.EnginesAreRefusedWithoutCapability : Prop :=
  (∀ (cfg : Config) (k : Sched) (b : V128) (n : Nat) (s : State),
    cfg.hasAesAccel = false → s.mode = .ready →
    chainAOn cfg k b n s = .refused .capabilityAbsent ∧
    chainNOn cfg k b n s = .refused .capabilityAbsent ∧
    checkOn cfg k b n s = .refused .capabilityAbsent) ∧
  Config.hardware.hasAesAccel = true ∧ Config.hardware.legal ∧
  (∀ (cfg : Config) (k : Sched) (b : V128) (n : Nat) (s : State), cfg.hasAesAccel = true →
    chainAOn cfg k b n s = exec (.chainA k b n) s ∧ chainNOn cfg k b n s = exec (.chainN k b n) s ∧
    checkOn cfg k b n s = exec (.check k b n) s) ∧
  (∀ (key : V128) (s : State), s.mode = .ready → ∃ t, expandOn key s = .next t ∧ t.rsp.status = 0)

/-! ## The pseudo-operations -/

/-- R80: POT_A is EXPAND and then CHAIN_A with the schedule EXPAND returned, and completes with the chain under the
key's encryption schedule. -/
def Obligations.PotARunsExpandThenChainA : Prop :=
  ∀ (key b : V128) (n : Nat) (s : State), s.mode = .ready →
    exec (.potA key b n) s = andThen (exec (.expand key) s) (fun t => exec (.chainA t.rsp.ek b n) t) ∧
    ∃ t, exec (.potA key b n) s = .next t ∧ t.rsp.block = chain (expandEk key) b n ∧
      t.rsp.status = 0 ∧ t.mode = .ready ∧ t.kse.ek = expandEk key ∧ t.kse.dk = expandDk key ∧
      t.opr = { op := 1, key := key, rk := expandEk key, block := b, n := n } ∧
      t.seeA = seeADone s.seeA n (chain (expandEk key) b n) ∧
      t.seeN = s.seeN ∧ t.eqo = s.eqo ∧ t.fr = s.fr

/-- R80: POT_N is EXPAND and then CHAIN_N with the schedule EXPAND returned. -/
def Obligations.PotNRunsExpandThenChainN : Prop :=
  ∀ (key b : V128) (n : Nat) (s : State), s.mode = .ready →
    exec (.potN key b n) s = andThen (exec (.expand key) s) (fun t => exec (.chainN t.rsp.ek b n) t) ∧
    ∃ t, exec (.potN key b n) s = .next t ∧ t.rsp.block = chain (expandEk key) b n ∧
      t.rsp.status = 0 ∧ t.mode = .ready ∧ t.kse.ek = expandEk key ∧ t.kse.dk = expandDk key ∧
      t.opr = { op := 2, key := key, rk := expandEk key, block := b, n := n } ∧
      t.seeN = seeNDone (expandEk key) (chain (expandEk key) b n) ∧
      t.seeA = s.seeA ∧ t.eqo = s.eqo ∧ t.fr = s.fr

/-- R80: POT_CHECK is EXPAND and then CHECK with the schedule EXPAND returned, and answers OK. -/
def Obligations.PotCheckRunsExpandThenCheck : Prop :=
  ∀ (key b : V128) (n : Nat) (s : State), s.mode = .ready →
    exec (.potCheck key b n) s = andThen (exec (.expand key) s) (fun t => exec (.check t.rsp.ek b n) t) ∧
    ∃ t, exec (.potCheck key b n) s = .next t ∧ t.rsp.status = 0 ∧
      t.rsp.block = chain (expandEk key) b n ∧ t.rsp.blockN = chain (expandEk key) b n ∧
      t.mode = .ready ∧ t.kse.ek = expandEk key ∧ t.kse.dk = expandDk key ∧
      t.opr = { op := 3, key := key, rk := expandEk key, block := b, n := n } ∧
      t.seeA = seeADone s.seeA n (chain (expandEk key) b n) ∧
      t.seeN = seeNDone (expandEk key) (chain (expandEk key) b n) ∧
      t.fr = s.fr

/-! ## The micro-operations -/

/-- R108: XOR128, byte lane by byte lane, with its algebra; nothing but the result changes. -/
def Obligations.Xor128ActsBytewise : Prop :=
  (∀ (d : VReg) (a b : VSrc) (s : State),
    ∃ t, exec (.xor128 d a b) s = .next t ∧
      (∀ i, i < 16 → byte (readReg t d) i = byte (readSrc s a) i ^^^ byte (readSrc s b) i) ∧
      MicroFrame d s t) ∧
  (∀ a b c : V128, xor128 a b = xor128 b a ∧ xor128 (xor128 a b) c = xor128 a (xor128 b c) ∧
    xor128 a a = 0 ∧ xor128 a 0 = a)

/-- R104: SUBBYTES. -/
def Obligations.SubbytesSubstitutesEachByte : Prop :=
  ∀ (d : VReg) (x : VSrc) (s : State),
    ∃ t, exec (.subbytes d x) s = .next t ∧
      (∀ i, i < 16 → byte (readReg t d) i = sbox (byte (readSrc s x) i)) ∧ MicroFrame d s t

/-- R105: SHIFTROWS rotates row `r` left by `r` columns. -/
def Obligations.ShiftrowsRotatesRows : Prop :=
  ∀ (d : VReg) (x : VSrc) (s : State),
    ∃ t, exec (.shiftrows d x) s = .next t ∧
      (∀ r c, r < 4 → c < 4 →
        byte (readReg t d) (r + 4 * c) = byte (readSrc s x) (r + 4 * ((c + r) % 4))) ∧
      MicroFrame d s t

/-- R106: MIXCOLUMNS, column by column, and a column of four equal bytes is unchanged. -/
def Obligations.MixcolumnsMixesColumns : Prop :=
  (∀ (d : VReg) (x : VSrc) (s : State),
    ∃ t, exec (.mixcolumns d x) s = .next t ∧
      (∀ c, c < 4 →
        let a := fun j => byte (readSrc s x) (4 * c + j)
        byte (readReg t d) (4 * c) = m2 (a 0) ^^^ m3 (a 1) ^^^ a 2 ^^^ a 3 ∧
        byte (readReg t d) (4 * c + 1) = a 0 ^^^ m2 (a 1) ^^^ m3 (a 2) ^^^ a 3 ∧
        byte (readReg t d) (4 * c + 2) = a 0 ^^^ a 1 ^^^ m2 (a 2) ^^^ m3 (a 3) ∧
        byte (readReg t d) (4 * c + 3) = m3 (a 0) ^^^ a 1 ^^^ a 2 ^^^ m2 (a 3)) ∧
      MicroFrame d s t) ∧
  (∀ (x : V128) (c j : Nat), c < 4 → j < 4 →
    (∀ i, i < 4 → byte x (4 * c + i) = byte x (4 * c)) →
    byte (mixColumns x) (4 * c + j) = byte x (4 * c))

/-- R107: INVMIXCOLUMNS, column by column; it and MIXCOLUMNS are inverse to each other, it is linear, a column of four
equal bytes is unchanged, and only KSE can use it. -/
def Obligations.InvmixcolumnsInvertsMixcolumns : Prop :=
  (∀ (d : VReg) (x : VSrc) (s : State),
    ∃ t, exec (.invmixcolumns d x) s = .next t ∧
      (∀ c, c < 4 →
        let a := fun j => byte (readSrc s x) (4 * c + j)
        byte (readReg t d) (4 * c) = m14 (a 0) ^^^ m11 (a 1) ^^^ m13 (a 2) ^^^ m9 (a 3) ∧
        byte (readReg t d) (4 * c + 1) = m9 (a 0) ^^^ m14 (a 1) ^^^ m11 (a 2) ^^^ m13 (a 3) ∧
        byte (readReg t d) (4 * c + 2) = m13 (a 0) ^^^ m9 (a 1) ^^^ m14 (a 2) ^^^ m11 (a 3) ∧
        byte (readReg t d) (4 * c + 3) = m11 (a 0) ^^^ m13 (a 1) ^^^ m9 (a 2) ^^^ m14 (a 3)) ∧
      MicroFrame d s t) ∧
  (∀ x : V128, invMixColumns (mixColumns x) = x ∧ mixColumns (invMixColumns x) = x) ∧
  (∀ a b : V128, invMixColumns (xor128 a b) = xor128 (invMixColumns a) (invMixColumns b)) ∧
  (∀ (x : V128) (c j : Nat), c < 4 → j < 4 →
    (∀ i, i < 4 → byte x (4 * c + i) = byte x (4 * c)) →
    byte (invMixColumns x) (4 * c + j) = byte x (4 * c)) ∧
  (∀ (d : VReg) (x : VSrc), (Instr.invmixcolumns d x).wf = true → d.unit = .kse)

/-- R109: ROUND is SUBBYTES, SHIFTROWS, MIXCOLUMNS and the key XOR in that order, as one instruction and as the four
instructions one after the other (where the key is not the register they overwrite). -/
def Obligations.RoundIsTheFourStepsInOrder : Prop :=
  (∀ (d : VReg) (x k : VSrc) (s : State),
    ∃ t, exec (.round d x k) s = .next t ∧
      readReg t d = xor128 (mixColumns (shiftRows (subBytes (readSrc s x)))) (readSrc s k) ∧
      MicroFrame d s t) ∧
  (∀ (d : VReg) (x k : VSrc) (s : State), k ≠ .reg d →
    andThen (exec (.subbytes d x) s) (fun s1 =>
      andThen (exec (.shiftrows d (.reg d)) s1) fun s2 =>
        andThen (exec (.mixcolumns d (.reg d)) s2) fun s3 => exec (.xor128 d (.reg d) k) s3) =
      exec (.round d x k) s)

/-- R110: FINALROUND omits the column mixing, byte by byte. -/
def Obligations.FinalroundOmitsColumnMixing : Prop :=
  ∀ (d : VReg) (x k : VSrc) (s : State),
    ∃ t, exec (.finalround d x k) s = .next t ∧
      (∀ r c, r < 4 → c < 4 → byte (readReg t d) (r + 4 * c) =
        sbox (byte (readSrc s x) (r + 4 * ((c + r) % 4))) ^^^ byte (readSrc s k) (r + 4 * c)) ∧
      MicroFrame d s t

/-- R111: the key enters the round micro-operations only through the last XOR128. -/
def Obligations.RoundKeysActLinearly : Prop :=
  ∀ s a b : V128,
    aesRound s (xor128 a b) = xor128 (aesRound s a) b ∧
    aesFinalRound s (xor128 a b) = xor128 (aesFinalRound s a) b

/-- R112, R113: KEYSTEP for every round index 1..10: the last word rotated left by one byte, substituted, the round
constant in its first byte, and the four-word cascade. -/
def Obligations.KeystepDerivesTheNextRoundKey : Prop :=
  ∀ (d : VReg) (p : VSrc) (r : BitVec 4) (s : State), 1 ≤ r.toNat → r.toNat ≤ 10 →
    ∃ t rc, exec (.keystep d p r) s = .next t ∧ rcon r.toNat = some rc ∧
      (let x := byte (readSrc s p)
       let q := byte (readReg t d)
       q 0 = x 0 ^^^ (sbox (x 13) ^^^ rc) ∧ q 1 = x 1 ^^^ sbox (x 14) ∧
       q 2 = x 2 ^^^ sbox (x 15) ∧ q 3 = x 3 ^^^ sbox (x 12) ∧
       (∀ j, j < 4 → q (4 + j) = x (4 + j) ^^^ q j ∧ q (8 + j) = x (8 + j) ^^^ q (4 + j) ∧
         q (12 + j) = x (12 + j) ^^^ q (8 + j))) ∧
      MicroFrame d s t

/-- R100, R113: KEYSTEP cannot fault: it runs for every round index, those for which `RCON` is not defined included.
There the round constant is a free value (log entry 7); the bytes it does not enter and the cascade are as ever. -/
def Obligations.KeystepRunsForEveryRoundIndex : Prop :=
  ∀ (d : VReg) (p : VSrc) (r : BitVec 4) (s : State),
    ∃ t, exec (.keystep d p r) s = .next t ∧
      (let x := byte (readSrc s p)
       let q := byte (readReg t d)
       q 1 = x 1 ^^^ sbox (x 14) ∧ q 2 = x 2 ^^^ sbox (x 15) ∧ q 3 = x 3 ^^^ sbox (x 12) ∧
       (∀ j, j < 12 → q (4 + j) = x (4 + j) ^^^ q j)) ∧
      MicroFrame d s t

/-! ## The tables and the field arithmetic -/

/-- R102: the multipliers of the CORE are the products by 2, 3, 9, 11, 13 and 14, and the corner cases. -/
def Obligations.MultipliersAreFieldProducts : Prop :=
  (∀ a : Byte, m2 a = gmul a 2 ∧ m3 a = gmul a 3 ∧ m9 a = gmul a 9 ∧ m11 a = gmul a 11 ∧
    m13 a = gmul a 13 ∧ m14 a = gmul a 14 ∧ gmul a 0 = 0 ∧ gmul a 1 = a) ∧
  xtime 0x00 = 0x00 ∧ xtime 0x80 = 0x1b ∧ xtime 0xff = 0xe5 ∧ xtime 0x57 = 0xae ∧
  gmul 0x57 0x13 = 0xfe ∧ gmul 0x57 0x83 = 0xc1

/-- R103: the table is the affine image of the multiplicative inverse (of zero for zero), a bijection, and has no fixed
point. -/
def Obligations.SboxTableMatchesItsFormula : Prop :=
  (∀ a : Byte, ∃ x : Byte, (if a = 0 then x = 0 else gmul a x = 1) ∧
    sbox a = x ^^^ x.rotateLeft 1 ^^^ x.rotateLeft 2 ^^^ x.rotateLeft 3 ^^^ x.rotateLeft 4 ^^^ 0x63#8) ∧
  (∀ a b : Byte, sbox a = sbox b → a = b) ∧ (∀ a : Byte, sbox a ≠ a)

/-- R112: the ten round constants, each the double of the one before. -/
def Obligations.RoundConstantsDouble : Prop :=
  rcon 1 = some 0x01 ∧ rcon 2 = some 0x02 ∧ rcon 3 = some 0x04 ∧ rcon 4 = some 0x08 ∧
  rcon 5 = some 0x10 ∧ rcon 6 = some 0x20 ∧ rcon 7 = some 0x40 ∧ rcon 8 = some 0x80 ∧
  rcon 9 = some 0x1b ∧ rcon 10 = some 0x36 ∧ rcon 0 = none ∧
  (∀ r, 1 ≤ r → r ≤ 9 → rcon (r + 1) = (rcon r).map xtime)

/-! ## Sequencer control and the step tables -/

/-- R135: KSE.LOOP sets, tests and increments the round index and moves KSE's sequencer; nothing else changes. -/
def Obligations.KseLoopControlsTheRoundIndex : Prop :=
  ∀ s : State,
    exec (.kseLoop .k0) s = .next { s with kse := { s.kse with r := 1, pos := .k1 } } ∧
    (s.kse.r = 10 → exec (.kseLoop .k3) s = .next { s with kse.pos := .k4 }) ∧
    (s.kse.r ≠ 10 → exec (.kseLoop .k3) s =
      .next { s with kse := { s.kse with r := s.kse.r + 1, pos := .k1 } })

/-- R156: SEEA.LOOP tests and counts `A.I` and `A.R` and moves SEE-A's sequencer; nothing else changes, and `A.I` does
not wrap (R115). -/
def Obligations.SeeALoopCountsIterationsAndRounds : Prop :=
  ∀ s : State,
    (s.seeA.i = 0 → exec (.seeaLoop .a1) s = .next { s with seeA.pos := .a7 }) ∧
    (s.seeA.i ≠ 0 → exec (.seeaLoop .a1) s = .next { s with seeA.pos := .a2 }) ∧
    (s.seeA.r = 9 → exec (.seeaLoop .a4) s = .next { s with seeA.pos := .a5 }) ∧
    (s.seeA.r ≠ 9 → exec (.seeaLoop .a4) s =
      .next { s with seeA := { s.seeA with r := s.seeA.r + 1, pos := .a3 } }) ∧
    (∃ t, exec (.seeaLoop .a6) s = .next t ∧
      t = { s with seeA := { s.seeA with i := t.seeA.i, pos := .a1 } } ∧
      t.seeA.i = s.seeA.i - 1)

/-- R176: SEEN.LOOP is the counted branch: it tests and counts `N.C` and moves SEE-N's sequencer; nothing else changes,
and `N.C` does not wrap (R29). -/
def Obligations.SeeNLoopIsACountedBranch : Prop :=
  ∀ s : State,
    (s.seeN.c = 0 → exec (.seenLoop .nt) s = .next { s with seeN.pos := .n6 }) ∧
    (s.seeN.c ≠ 0 → exec (.seenLoop .nt) s = .next { s with seeN.pos := .n3 0 }) ∧
    (∃ t, exec (.seenLoop .n5) s = .next t ∧
      t = { s with seeN := { s.seeN with c := t.seeN.c, pos := .nt } } ∧
      t.seeN.c = s.seeN.c - 1)

/-- R32, R195: EQO.COMPARE sets `Q.MATCH` to 1 iff the two blocks are equal, and where it is 0 sets `Q.DIFF` to the
least byte index at which they differ; nothing but EQO's flags and position changes. With `Q.MATCH = 0` on equal
blocks it completes too, and `Q.DIFF` is a free value (log entry 8), of which nothing is said. -/
def Obligations.CompareFindsTheLeastDifferingByte : Prop :=
  ∀ s : State,
    (∃ t, exec (.eqoCompare .q1) s = .next t ∧
      t = { s with eqo := { s.eqo with matched := t.eqo.matched, pos := .q2 } } ∧
      (t.eqo.matched = true ↔ s.eqo.oa = s.eqo.on)) ∧
    (s.eqo.matched = true → exec (.eqoCompare .q2) s = .next { s with eqo.pos := .q3 }) ∧
    (s.eqo.matched = false →
      ∃ t, exec (.eqoCompare .q2) s = .next t ∧
        t = { s with eqo := { s.eqo with diff := t.eqo.diff, pos := .q4 } } ∧
        (s.eqo.oa ≠ s.eqo.on →
          byte s.eqo.oa t.eqo.diff.toNat ≠ byte s.eqo.on t.eqo.diff.toNat ∧
          ∀ j, j < t.eqo.diff.toNat → byte s.eqo.oa j = byte s.eqo.on j))

/-- R135: each step of KSE's table, and that the running machine steps by it. The fields `free` and `last` that the
respond step also writes are the model's own (log entries 3 and 18). -/
def Obligations.KseFollowsItsStepTable : Prop :=
  ∀ s : State,
    (s.opr.op = 0#2 → tick s = kseStep s) ∧
    (s.kse.pos = .k0 → kseStep s = exec (.kseLoop .k0) { s with
      kse.ek := s.kse.ek.set 0 s.opr.key, kse.dk := s.kse.dk.set 0 s.opr.key }) ∧
    (∀ q : Fin 10, s.kse.pos = .k1 → s.kse.r.toNat = q.val + 1 →
      kseStep s = andThen (exec (.keystep (.ek q.succ) (.reg (.ek q.castSucc)) s.kse.r) s)
        fun t => .next { t with kse.pos := .k2 }) ∧
    (∀ q : Fin 10, s.kse.pos = .k2 → s.kse.r.toNat = q.val →
      kseStep s = andThen (exec (.invmixcolumns (.dk q.castSucc) (.reg (.ek q.castSucc))) s)
        fun t => .next { t with kse.pos := .k3 }) ∧
    (s.kse.pos = .k2 → s.kse.r = 10 →
      kseStep s = .next { s with kse.dk := s.kse.dk.set 10 s.kse.ek[10], kse.pos := .k3 }) ∧
    (s.kse.pos = .k3 → kseStep s = exec (.kseLoop .k3) s) ∧
    (s.kse.pos = .k4 → ∃ t, kseStep s = .next t ∧ t.rsp.ek = s.kse.ek ∧ t.rsp.dk = s.kse.dk ∧
      t.rsp.status = 0 ∧ t.mode = .ready ∧
      t = { s with rsp := t.rsp, mode := .ready, free := t.free, last := .responded 0, kse.pos := .idle })

/-- R155: each step of SEE-A's table, and that the running machine steps by it. The fields `free` and `last` that the
respond step also writes are the model's own (log entries 3 and 18). -/
def Obligations.SeeAFollowsItsStepTable : Prop :=
  ∀ s : State,
    (s.opr.op = 1#2 → tick s = seeAStep s) ∧
    (s.seeA.pos = .a0 → seeAStep s =
      .next { s with seeA := { s.seeA with s := s.opr.block, i := s.opr.n, pos := .a1 } }) ∧
    (s.seeA.pos = .a1 → seeAStep s = exec (.seeaLoop .a1) s) ∧
    (s.seeA.pos = .a2 → seeAStep s = andThen (exec (.xor128 .aS (.reg .aS) (.rk 0)) s)
      fun t => .next { t with seeA.r := 1, seeA.pos := .a3 }) ∧
    (∀ r : Entry, s.seeA.pos = .a3 → s.seeA.r.toNat = r.val →
      seeAStep s = andThen (exec (.round .aS (.reg .aS) (.rk r)) s) fun t => .next { t with seeA.pos := .a4 }) ∧
    (s.seeA.pos = .a4 → seeAStep s = exec (.seeaLoop .a4) s) ∧
    (s.seeA.pos = .a5 → seeAStep s = andThen (exec (.finalround .aS (.reg .aS) (.rk 10)) s)
      fun t => .next { t with seeA.pos := .a6 }) ∧
    (s.seeA.pos = .a6 → seeAStep s = exec (.seeaLoop .a6) s) ∧
    (s.seeA.pos = .a7 → ∃ t, seeAStep s = .next t ∧ t.rsp.block = s.seeA.s ∧ t.rsp.status = 0 ∧ t.mode = .ready ∧
      t = { s with rsp := t.rsp, mode := .ready, free := t.free, last := .responded 0, seeA.pos := .idle })

/-- R175: each step of SEE-N's table, and that the running machine steps by it. The fields `free` and `last` that the
respond step also writes are the model's own (log entries 3 and 18). -/
def Obligations.SeeNFollowsItsStepTable : Prop :=
  ∀ s : State,
    (s.opr.op = 2#2 → tick s = seeNStep s) ∧
    (s.seeN.pos = .n0 → ∃ t, seeNStep s = .next t ∧
      t = { s with seeN := { s.seeN with v := t.seeN.v, pos := .n1 } } ∧
      t.seeN.v[0] = s.seeN.v[0] ∧ t.seeN.v[11] = entry s.opr.rk 0 ∧
      (∀ r, 1 ≤ r → r ≤ 9 → t.seeN.v[r]? = some (entry s.opr.rk r)) ∧
      t.seeN.v[10] = xor128 (entry s.opr.rk 10) (entry s.opr.rk 0)) ∧
    (s.seeN.pos = .n1 → seeNStep s = .next { s with seeN := { s.seeN with c := s.opr.n, pos := .n2 } }) ∧
    (s.seeN.pos = .n2 → seeNStep s = andThen (exec (.xor128 (.v 0) .oprBlock (.reg (.v 11))) s)
      fun t => .next { t with seeN.pos := .nt }) ∧
    (s.seeN.pos = .nt → seeNStep s = exec (.seenLoop .nt) s) ∧
    (∀ j : Fin 8, s.seeN.pos = .n3 j.castSucc →
      seeNStep s = andThen (exec (.round (.v 0) (.reg (.v 0)) (.reg (.v ⟨j.val + 1, by omega⟩))) s)
        fun t => .next { t with seeN.pos := .n3 j.succ }) ∧
    (s.seeN.pos = .n3 8 → seeNStep s = andThen (exec (.round (.v 0) (.reg (.v 0)) (.reg (.v 9))) s)
      fun t => .next { t with seeN.pos := .n4 }) ∧
    (s.seeN.pos = .n4 → seeNStep s = andThen (exec (.finalround (.v 0) (.reg (.v 0)) (.reg (.v 10))) s)
      fun t => .next { t with seeN.pos := .n5 }) ∧
    (s.seeN.pos = .n5 → seeNStep s = exec (.seenLoop .n5) s) ∧
    (s.seeN.pos = .n6 → seeNStep s = andThen (exec (.xor128 (.v 0) (.reg (.v 0)) (.reg (.v 11))) s)
      fun t => .next { t with seeN.pos := .n7 }) ∧
    (s.seeN.pos = .n7 → ∃ t, seeNStep s = .next t ∧ t.rsp.block = s.seeN.v[0] ∧ t.rsp.status = 0 ∧
      t.mode = .ready ∧ t = { s with rsp := t.rsp, mode := .ready, free := t.free, last := .responded 0, seeN.pos := .idle })

/-- R195, R196: each step of EQO's table, Q0 to Q4. In Q0 each step is a step of one engine by its own table, an engine at
its end being copied instead of responding; the turns are the model's own (log entry 4). Q3 responds OK and Q4 raises
EquivalenceMismatch (R213); the fields `free` and `last` these two also write are the model's own (log entries 3 and
18). -/
def Obligations.EqoFollowsItsStepTable : Prop :=
  ∀ s : State, s.opr.op = 3#2 →
    (s.eqo.pos = .q0 → engineToStep s = .seeA → s.seeA.pos ≠ .a7 →
      tick s = seeAStep (s.setTurns s.turns.tail)) ∧
    (s.eqo.pos = .q0 → engineToStep s = .seeN → s.seeN.pos ≠ .n7 →
      tick s = seeNStep (s.setTurns s.turns.tail)) ∧
    (s.eqo.pos = .q0 → engineToStep s = .seeA → s.seeA.pos = .a7 →
      tick s = .next { s with
        turns := s.turns.tail, seeA.pos := .idle
        eqo := { s.eqo with oa := s.seeA.s, pos := if s.seeN.pos = .idle then .q1 else .q0 } }) ∧
    (s.eqo.pos = .q0 → engineToStep s = .seeN → s.seeN.pos = .n7 →
      tick s = .next { s with
        turns := s.turns.tail, seeN.pos := .idle
        eqo := { s.eqo with on := s.seeN.v[0], pos := if s.seeA.pos = .idle then .q1 else .q0 } }) ∧
    (s.eqo.pos = .q1 → tick s = exec (.eqoCompare .q1) s) ∧
    (s.eqo.pos = .q2 → tick s = exec (.eqoCompare .q2) s) ∧
    (s.eqo.pos = .q3 → ∃ t, tick s = .next t ∧ t.rsp.status = 0 ∧ t.rsp.block = s.eqo.oa ∧
      t.rsp.blockN = s.eqo.on ∧ t.mode = .ready ∧
      t = { s with rsp := t.rsp, mode := .ready, free := t.free, last := .responded 0, eqo.pos := .idle }) ∧
    (s.eqo.pos = .q4 → ∃ t, tick s = .next t ∧
      t.fr = { valid := true, cause := 1, oa := s.eqo.oa, on := s.eqo.on, diff := s.eqo.diff } ∧
      t.rsp.status = 1 ∧ t.rsp.block = s.eqo.oa ∧ t.rsp.blockN = s.eqo.on ∧ t.rsp.diff = s.eqo.diff ∧
      t.mode = .fatal ∧
      t = { s with
        fr := t.fr, rsp := t.rsp, mode := .fatal, free := t.free, last := .responded 1, eqo.pos := .idle })

/-! ## The exception -/

/-- R213: at Q4 EquivalenceMismatch is raised as one step: the fatal record is written, the response is delivered with
status 1 and both blocks, the mode becomes FATAL, and nothing else changes. -/
def Obligations.MismatchEntersFatalWithTheRecord : Prop :=
  ∀ s : State, s.mode = .busy → s.opr.op = 3#2 → s.eqo.pos = .q4 → nextEvent s ≠ .reset →
    ∃ t, step s = .next t ∧ t.mode = .fatal ∧ t.ready = false ∧ t.fatal = true ∧
      t.fr = { valid := true, cause := 1, oa := s.eqo.oa, on := s.eqo.on, diff := s.eqo.diff } ∧
      t.rsp.status = 1 ∧ t.rsp.block = s.eqo.oa ∧ t.rsp.blockN = s.eqo.on ∧ t.rsp.diff = s.eqo.diff ∧
      t.opr = s.opr ∧ t.kse = s.kse ∧ t.seeA = s.seeA ∧ t.seeN = s.seeN ∧
      t.eqo = { s.eqo with pos := .idle }

/-- R195, R211, R213: if the two engines have left blocks that differ, CHECK ends three steps later in FATAL, with both
blocks and the least differing byte index in the fatal record, and the run has ended badly (R248). -/
def Obligations.DifferingOutputsEndInFatal : Prop :=
  ∀ s : State, s.mode = .busy → s.opr.op = 3#2 → s.eqo.pos = .q1 → s.inputs = [] → s.eqo.oa ≠ s.eqo.on →
    ∃ t : State, Host.Core.run core 3 s = .next t ∧ t.mode = .fatal ∧ t.fr.valid = true ∧ t.fr.cause = 1 ∧
      t.fr.oa = s.eqo.oa ∧ t.fr.on = s.eqo.on ∧
      byte s.eqo.oa t.fr.diff.toNat ≠ byte s.eqo.on t.fr.diff.toNat ∧
      (∀ j, j < t.fr.diff.toNat → byte s.eqo.oa j = byte s.eqo.on j) ∧
      t.rsp.status = 1 ∧ t.rsp.diff = t.fr.diff ∧ EndedBadly t ∧ ¬ EndedWell t

/-- R191, R194: the comparison over any pair of engine functions answers OK exactly where they agree, and otherwise the
least differing byte index. -/
def Obligations.OracleReportsTheLeastDifference : Prop :=
  ∀ (f g : Sched → V128 → Nat → V128) (k : Sched) (b : V128) (n : Nat),
    (f k b n = g k b n → oracle f g k b n = .ok (f k b n) (g k b n)) ∧
    (f k b n ≠ g k b n → ∃ i, i < 16 ∧ oracle f g k b n = .mismatch (f k b n) (g k b n) i ∧
      byte (f k b n) i ≠ byte (g k b n) i ∧ ∀ j, j < i → byte (f k b n) j = byte (g k b n) j)

/-- R193, R194: over the two engine functions of the spec the oracle always answers OK, and over a native engine that
omits the final un-whitening it answers MISMATCH for every count, zero included, whenever round key 0 is not zero. -/
def Obligations.OracleCatchesAnOmittedUnwhitening : Prop :=
  ∀ (k : Sched) (b : V128) (n : Nat),
    oracle chain chainNative k b n = .ok (chain k b n) (chainNative k b n) ∧
    (entry k 0 ≠ 0 → ∃ i, i < 16 ∧
      oracle chain (fun k b n => nativeLoop k n (xor128 b (entry k 0))) k b n =
        .mismatch (chain k b n) (xor128 (chain k b n) (entry k 0)) i)

/-! ## The round-key stores -/

/-- R51, R52: a read of `RK` gives the whole entry, byte for byte as the byte-address notation places it; a write of an
entry of a result file gives that entry and leaves every other entry and the rest of the CORE alone. -/
def Obligations.RoundKeyStoresAreEntrywise : Prop :=
  (∀ (s : State) (r : Entry), memRead s r = s.opr.rk[r]) ∧
  (∀ (s : State) (r : Entry) (i : Nat), i < 16 → rkByte s (16 * r.val + i) = byte (memRead s r) i) ∧
  (∀ (s : State) (r q : Entry) (x : V128),
    (memWriteEk r x s).kse.ek[q] = (if q = r then x else s.kse.ek[q]) ∧
    (memWriteEk r x s) = { s with kse.ek := (memWriteEk r x s).kse.ek } ∧
    (memWriteDk r x s).kse.dk[q] = (if q = r then x else s.kse.dk[q]) ∧
    (memWriteDk r x s) = { s with kse.dk := (memWriteDk r x s).kse.dk })
end

