-- ==== Sys2Proof/Laws/Bytes.lean ====
section
/-!
SUPPORT. Bytes and lanes: a packed value read lane by lane gives the lanes back, and a V128 is its sixteen
bytes.
-/

namespace Sys2Proof.Machine

/-- Which lane and which bit of it a bit of a packed value is. -/
theorem getLsbD_joinLanes {w m : Nat} (hw : 0 < w) (lane : Nat → BitVec w) (n i : Nat) :
    (joinLanes w m lane n).getLsbD i =
      (decide (i < m) && decide (i < w * n) && (lane (i / w)).getLsbD (i % w)) := by
  induction n with
  | zero => simp [joinLanes]
  | succ k ih =>
    simp only [joinLanes, BitVec.getLsbD_or, ih, BitVec.getLsbD_shiftLeft, BitVec.getLsbD_setWidth]
    have hdm : w * (i / w) + i % w = i := Nat.div_add_mod i w
    have hmod : i % w < w := Nat.mod_lt i hw
    have hsucc : w * (k + 1) = w * k + w := Nat.mul_succ w k
    by_cases hm : i < m
    · rcases Nat.lt_trichotomy (i / w) k with h | h | h
      · have : w * (i / w + 1) ≤ w * k := Nat.mul_le_mul_left w h
        rw [Nat.mul_succ] at this
        have h1 : i < w * k := by omega
        have h2 : i < w * (k + 1) := by omega
        simp [hm, h1, h2]
      · subst h
        have h1 : ¬ i < w * (i / w) := by omega
        have h2 : i < w * (i / w + 1) := by omega
        have h3 : i - w * (i / w) = i % w := by omega
        have h4 : i - w * (i / w) < m := by omega
        simp only [hm, h1, h2, h3, decide_true, decide_false, Bool.and_false, Bool.false_and, Bool.false_or,
          Bool.not_false, Bool.true_and]
        rw [h3] at h4
        simp [h4]
      · have : w * (k + 1) ≤ w * (i / w) := Nat.mul_le_mul_left w h
        have h1 : ¬ i < w * k := by omega
        have h2 : ¬ i < w * (k + 1) := by omega
        have h3 : w ≤ i - w * k := by omega
        simp [h1, h2, BitVec.getLsbD_of_ge _ _ h3]
    · simp [hm]

/-- Lane `k` of a packed value (R9, R72). -/
theorem extractLsb'_joinLanes {w m : Nat} (hw : 0 < w) (lane : Nat → BitVec w) {n k : Nat} (hk : k < n)
    (hm : w * n ≤ m) : (joinLanes w m lane n).extractLsb' (w * k) w = lane k := by
  ext j hj
  have h1 : w * (k + 1) ≤ w * n := Nat.mul_le_mul_left w hk
  rw [Nat.mul_succ] at h1
  have h2 : (w * k + j) / w = k := by
    rw [Nat.mul_add_div hw, Nat.div_eq_of_lt hj, Nat.add_zero]
  have h3 : (w * k + j) % w = j := by rw [Nat.mul_add_mod, Nat.mod_eq_of_lt hj]
  rw [BitVec.getElem_extractLsb', getLsbD_joinLanes hw, h2, h3]
  have h4 : w * k + j < m := by omega
  have h5 : w * k + j < w * n := by omega
  simp [h4, h5, BitVec.getLsbD_eq_getElem hj]

/-- Byte `i` of a V128 given by its bytes. -/
theorem byte_ofBytes (f : Nat → Byte) {i : Nat} (h : i < 16) : byte (ofBytes f) i = f i :=
  extractLsb'_joinLanes (by decide) f h (by decide)

/-- A V128 is determined by its sixteen bytes (R9: equality of V128 is equality of all 16 bytes). -/
theorem eq_of_byte_eq {x y : V128} (h : ∀ i, i < 16 → byte x i = byte y i) : x = y := by
  apply BitVec.eq_of_getLsbD_eq
  intro j hj
  have hb := congrArg (fun b => b.getLsbD (j % 8)) (h (j / 8) (by omega))
  have hm : j % 8 < 8 := Nat.mod_lt _ (by decide)
  have hd : 8 * (j / 8) + j % 8 = j := Nat.div_add_mod j 8
  simpa [byte, BitVec.getLsbD_extractLsb', hm, hd] using hb

/-- Exclusive-or acts byte by byte (R9). -/
theorem byte_xor (x y : V128) (i : Nat) : byte (x ^^^ y) i = byte x i ^^^ byte y i := by
  ext j hj
  simp [byte, BitVec.getLsbD_xor]

/-- An index in range names the entry. -/
theorem entry_of_lt (k : Sched) {r : Nat} (h : r < 11) : entry k r = k[r] := by simp [entry, h]

/-- A schedule is determined by its eleven entries. -/
theorem eq_of_entry_eq {k l : Sched} (h : ∀ r, r < 11 → entry k r = entry l r) : k = l := by
  ext r hr : 1
  simpa [entry, hr] using h r hr

end Sys2Proof.Machine
end

