-- ==== Sys2Proof/Laws/Aes.lean ====
section
/-!
SUPPORT. The datapath, byte by byte: what each micro-operation puts into each byte of its result.
-/

namespace Sys2Proof.Machine

theorem byte_xor128 (a b : V128) (i : Nat) : byte (xor128 a b) i = byte a i ^^^ byte b i := byte_xor a b i

theorem byte_subBytes (s : V128) {i : Nat} (h : i < 16) : byte (subBytes s) i = sbox (byte s i) :=
  byte_ofBytes _ h

theorem byte_shiftRows (s : V128) {i : Nat} (h : i < 16) :
    byte (shiftRows s) i = byte s (i % 4 + 4 * ((i / 4 + i % 4) % 4)) :=
  byte_ofBytes _ h

theorem byte_onColumns (f : Byte → Byte → Byte → Byte → Nat → Byte) (s : V128) {i : Nat} (h : i < 16) :
    byte (onColumns f s) i =
      f (byte s (4 * (i / 4))) (byte s (4 * (i / 4) + 1)) (byte s (4 * (i / 4) + 2))
        (byte s (4 * (i / 4) + 3)) (i % 4) :=
  byte_ofBytes _ h

theorem byte_keyStep (p : V128) (rc : Byte) {i : Nat} (h : i < 16) :
    byte (keyStep p rc) i = cascadeByte p rc (i % 4) (i / 4) :=
  byte_ofBytes _ h

/-- XOR128 with the same value twice changes nothing (R108). -/
theorem xor128_xor128_cancel (x a : V128) : xor128 (xor128 x a) a = x := by
  simp [xor128]

theorem xor128_comm (a b : V128) : xor128 a b = xor128 b a := BitVec.xor_comm a b

theorem xor128_assoc (a b c : V128) : xor128 (xor128 a b) c = xor128 a (xor128 b c) := BitVec.xor_assoc a b c

/-- `RCON` is defined exactly on `1..10` (R112). -/
theorem rcon_isSome_iff (r : Nat) : (rcon r).isSome = true ↔ 1 ≤ r ∧ r ≤ 10 := by
  cases r with
  | zero => simp [rcon]
  | succ q =>
    have hl : rconTable.length = 10 := rfl
    by_cases h : q < 10
    · simp [rcon, hl, h]
    · simp [rcon, hl, h]

end Sys2Proof.Machine
end

