-- ==== Sys2Proof/Laws/Decode.lean ====
section
/-!
SUPPORT. The request ports at any `CNT_W`: a request whose count is expressible passes through them unchanged, and
they carry no other count.
-/

namespace Sys2Proof

/-- Ports carry counts below `2^CNT_W` only (R245). -/
theorem Ports.request_n_lt {w : Nat} (q : Ports w) : q.request.n < 2 ^ w := q.n.isLt

/-- What an expressible request drives the ports with is read back whole (R72, R75). -/
theorem Request.request_ports {w : Nat} {p : Request} (h : p.n < 2 ^ w) : (p.ports w).request = p := by
  simp [Ports.request, Request.ports, Nat.mod_eq_of_lt h]

/-- Driving the ports with the request they carry changes nothing. -/
theorem Ports.ports_request {w : Nat} (q : Ports w) : q.request.ports w = q := by
  simp [Ports.request, Request.ports]

/-- An instruction is expressible where its count is below `2^CNT_W` (R245). -/
@[simp] theorem Instr.expressible_iff (w : Nat) (i : Instr) : i.expressible w = true ↔ i.count < 2 ^ w := by
  simp [Instr.expressible]

/-- The count of the instruction a request carries is the number on `req_n`, or no count at all (R70). -/
theorem count_decodeRequest (p : Request) : (decodeRequest p).count = p.n ∨ (decodeRequest p).count = 0 := by
  unfold decodeRequest
  cases opOfCode p.op <;> simp [Instr.count]

end Sys2Proof
end

