-- ==== Sys2Proof/Laws/State.lean ====
section
/-!
SUPPORT. State: one lemma for each field and each update, so that no later proof unfolds a record update;
what reset leaves; when two states are equal.
-/

namespace Sys2Proof.Machine

@[simp] theorem State.setOpr_opr (s : State) (x : OperandLatch) : (s.setOpr x).opr = x := rfl
@[simp] theorem State.setOpr_mode (s : State) (x : OperandLatch) : (s.setOpr x).mode = s.mode := rfl
@[simp] theorem State.setOpr_kse (s : State) (x : OperandLatch) : (s.setOpr x).kse = s.kse := rfl
@[simp] theorem State.setOpr_seeA (s : State) (x : OperandLatch) : (s.setOpr x).seeA = s.seeA := rfl
@[simp] theorem State.setOpr_seeN (s : State) (x : OperandLatch) : (s.setOpr x).seeN = s.seeN := rfl
@[simp] theorem State.setOpr_eqo (s : State) (x : OperandLatch) : (s.setOpr x).eqo = s.eqo := rfl
@[simp] theorem State.setOpr_fr (s : State) (x : OperandLatch) : (s.setOpr x).fr = s.fr := rfl
@[simp] theorem State.setOpr_rsp (s : State) (x : OperandLatch) : (s.setOpr x).rsp = s.rsp := rfl
@[simp] theorem State.setOpr_free (s : State) (x : OperandLatch) : (s.setOpr x).free = s.free := rfl
@[simp] theorem State.setOpr_turns (s : State) (x : OperandLatch) : (s.setOpr x).turns = s.turns := rfl
@[simp] theorem State.setOpr_inputs (s : State) (x : OperandLatch) : (s.setOpr x).inputs = s.inputs := rfl
@[simp] theorem State.setOpr_last (s : State) (x : OperandLatch) : (s.setOpr x).last = s.last := rfl

@[simp] theorem State.setMode_opr (s : State) (x : Mode) : (s.setMode x).opr = s.opr := rfl
@[simp] theorem State.setMode_mode (s : State) (x : Mode) : (s.setMode x).mode = x := rfl
@[simp] theorem State.setMode_kse (s : State) (x : Mode) : (s.setMode x).kse = s.kse := rfl
@[simp] theorem State.setMode_seeA (s : State) (x : Mode) : (s.setMode x).seeA = s.seeA := rfl
@[simp] theorem State.setMode_seeN (s : State) (x : Mode) : (s.setMode x).seeN = s.seeN := rfl
@[simp] theorem State.setMode_eqo (s : State) (x : Mode) : (s.setMode x).eqo = s.eqo := rfl
@[simp] theorem State.setMode_fr (s : State) (x : Mode) : (s.setMode x).fr = s.fr := rfl
@[simp] theorem State.setMode_rsp (s : State) (x : Mode) : (s.setMode x).rsp = s.rsp := rfl
@[simp] theorem State.setMode_free (s : State) (x : Mode) : (s.setMode x).free = s.free := rfl
@[simp] theorem State.setMode_turns (s : State) (x : Mode) : (s.setMode x).turns = s.turns := rfl
@[simp] theorem State.setMode_inputs (s : State) (x : Mode) : (s.setMode x).inputs = s.inputs := rfl
@[simp] theorem State.setMode_last (s : State) (x : Mode) : (s.setMode x).last = s.last := rfl

@[simp] theorem State.setKse_opr (s : State) (x : Kse) : (s.setKse x).opr = s.opr := rfl
@[simp] theorem State.setKse_mode (s : State) (x : Kse) : (s.setKse x).mode = s.mode := rfl
@[simp] theorem State.setKse_kse (s : State) (x : Kse) : (s.setKse x).kse = x := rfl
@[simp] theorem State.setKse_seeA (s : State) (x : Kse) : (s.setKse x).seeA = s.seeA := rfl
@[simp] theorem State.setKse_seeN (s : State) (x : Kse) : (s.setKse x).seeN = s.seeN := rfl
@[simp] theorem State.setKse_eqo (s : State) (x : Kse) : (s.setKse x).eqo = s.eqo := rfl
@[simp] theorem State.setKse_fr (s : State) (x : Kse) : (s.setKse x).fr = s.fr := rfl
@[simp] theorem State.setKse_rsp (s : State) (x : Kse) : (s.setKse x).rsp = s.rsp := rfl
@[simp] theorem State.setKse_free (s : State) (x : Kse) : (s.setKse x).free = s.free := rfl
@[simp] theorem State.setKse_turns (s : State) (x : Kse) : (s.setKse x).turns = s.turns := rfl
@[simp] theorem State.setKse_inputs (s : State) (x : Kse) : (s.setKse x).inputs = s.inputs := rfl
@[simp] theorem State.setKse_last (s : State) (x : Kse) : (s.setKse x).last = s.last := rfl

@[simp] theorem State.setSeeA_opr (s : State) (x : SeeA) : (s.setSeeA x).opr = s.opr := rfl
@[simp] theorem State.setSeeA_mode (s : State) (x : SeeA) : (s.setSeeA x).mode = s.mode := rfl
@[simp] theorem State.setSeeA_kse (s : State) (x : SeeA) : (s.setSeeA x).kse = s.kse := rfl
@[simp] theorem State.setSeeA_seeA (s : State) (x : SeeA) : (s.setSeeA x).seeA = x := rfl
@[simp] theorem State.setSeeA_seeN (s : State) (x : SeeA) : (s.setSeeA x).seeN = s.seeN := rfl
@[simp] theorem State.setSeeA_eqo (s : State) (x : SeeA) : (s.setSeeA x).eqo = s.eqo := rfl
@[simp] theorem State.setSeeA_fr (s : State) (x : SeeA) : (s.setSeeA x).fr = s.fr := rfl
@[simp] theorem State.setSeeA_rsp (s : State) (x : SeeA) : (s.setSeeA x).rsp = s.rsp := rfl
@[simp] theorem State.setSeeA_free (s : State) (x : SeeA) : (s.setSeeA x).free = s.free := rfl
@[simp] theorem State.setSeeA_turns (s : State) (x : SeeA) : (s.setSeeA x).turns = s.turns := rfl
@[simp] theorem State.setSeeA_inputs (s : State) (x : SeeA) : (s.setSeeA x).inputs = s.inputs := rfl
@[simp] theorem State.setSeeA_last (s : State) (x : SeeA) : (s.setSeeA x).last = s.last := rfl

@[simp] theorem State.setSeeN_opr (s : State) (x : SeeN) : (s.setSeeN x).opr = s.opr := rfl
@[simp] theorem State.setSeeN_mode (s : State) (x : SeeN) : (s.setSeeN x).mode = s.mode := rfl
@[simp] theorem State.setSeeN_kse (s : State) (x : SeeN) : (s.setSeeN x).kse = s.kse := rfl
@[simp] theorem State.setSeeN_seeA (s : State) (x : SeeN) : (s.setSeeN x).seeA = s.seeA := rfl
@[simp] theorem State.setSeeN_seeN (s : State) (x : SeeN) : (s.setSeeN x).seeN = x := rfl
@[simp] theorem State.setSeeN_eqo (s : State) (x : SeeN) : (s.setSeeN x).eqo = s.eqo := rfl
@[simp] theorem State.setSeeN_fr (s : State) (x : SeeN) : (s.setSeeN x).fr = s.fr := rfl
@[simp] theorem State.setSeeN_rsp (s : State) (x : SeeN) : (s.setSeeN x).rsp = s.rsp := rfl
@[simp] theorem State.setSeeN_free (s : State) (x : SeeN) : (s.setSeeN x).free = s.free := rfl
@[simp] theorem State.setSeeN_turns (s : State) (x : SeeN) : (s.setSeeN x).turns = s.turns := rfl
@[simp] theorem State.setSeeN_inputs (s : State) (x : SeeN) : (s.setSeeN x).inputs = s.inputs := rfl
@[simp] theorem State.setSeeN_last (s : State) (x : SeeN) : (s.setSeeN x).last = s.last := rfl

@[simp] theorem State.setEqo_opr (s : State) (x : Eqo) : (s.setEqo x).opr = s.opr := rfl
@[simp] theorem State.setEqo_mode (s : State) (x : Eqo) : (s.setEqo x).mode = s.mode := rfl
@[simp] theorem State.setEqo_kse (s : State) (x : Eqo) : (s.setEqo x).kse = s.kse := rfl
@[simp] theorem State.setEqo_seeA (s : State) (x : Eqo) : (s.setEqo x).seeA = s.seeA := rfl
@[simp] theorem State.setEqo_seeN (s : State) (x : Eqo) : (s.setEqo x).seeN = s.seeN := rfl
@[simp] theorem State.setEqo_eqo (s : State) (x : Eqo) : (s.setEqo x).eqo = x := rfl
@[simp] theorem State.setEqo_fr (s : State) (x : Eqo) : (s.setEqo x).fr = s.fr := rfl
@[simp] theorem State.setEqo_rsp (s : State) (x : Eqo) : (s.setEqo x).rsp = s.rsp := rfl
@[simp] theorem State.setEqo_free (s : State) (x : Eqo) : (s.setEqo x).free = s.free := rfl
@[simp] theorem State.setEqo_turns (s : State) (x : Eqo) : (s.setEqo x).turns = s.turns := rfl
@[simp] theorem State.setEqo_inputs (s : State) (x : Eqo) : (s.setEqo x).inputs = s.inputs := rfl
@[simp] theorem State.setEqo_last (s : State) (x : Eqo) : (s.setEqo x).last = s.last := rfl

@[simp] theorem State.setFr_opr (s : State) (x : FatalRecord) : (s.setFr x).opr = s.opr := rfl
@[simp] theorem State.setFr_mode (s : State) (x : FatalRecord) : (s.setFr x).mode = s.mode := rfl
@[simp] theorem State.setFr_kse (s : State) (x : FatalRecord) : (s.setFr x).kse = s.kse := rfl
@[simp] theorem State.setFr_seeA (s : State) (x : FatalRecord) : (s.setFr x).seeA = s.seeA := rfl
@[simp] theorem State.setFr_seeN (s : State) (x : FatalRecord) : (s.setFr x).seeN = s.seeN := rfl
@[simp] theorem State.setFr_eqo (s : State) (x : FatalRecord) : (s.setFr x).eqo = s.eqo := rfl
@[simp] theorem State.setFr_fr (s : State) (x : FatalRecord) : (s.setFr x).fr = x := rfl
@[simp] theorem State.setFr_rsp (s : State) (x : FatalRecord) : (s.setFr x).rsp = s.rsp := rfl
@[simp] theorem State.setFr_free (s : State) (x : FatalRecord) : (s.setFr x).free = s.free := rfl
@[simp] theorem State.setFr_turns (s : State) (x : FatalRecord) : (s.setFr x).turns = s.turns := rfl
@[simp] theorem State.setFr_inputs (s : State) (x : FatalRecord) : (s.setFr x).inputs = s.inputs := rfl
@[simp] theorem State.setFr_last (s : State) (x : FatalRecord) : (s.setFr x).last = s.last := rfl

@[simp] theorem State.setRsp_opr (s : State) (x : Response) : (s.setRsp x).opr = s.opr := rfl
@[simp] theorem State.setRsp_mode (s : State) (x : Response) : (s.setRsp x).mode = s.mode := rfl
@[simp] theorem State.setRsp_kse (s : State) (x : Response) : (s.setRsp x).kse = s.kse := rfl
@[simp] theorem State.setRsp_seeA (s : State) (x : Response) : (s.setRsp x).seeA = s.seeA := rfl
@[simp] theorem State.setRsp_seeN (s : State) (x : Response) : (s.setRsp x).seeN = s.seeN := rfl
@[simp] theorem State.setRsp_eqo (s : State) (x : Response) : (s.setRsp x).eqo = s.eqo := rfl
@[simp] theorem State.setRsp_fr (s : State) (x : Response) : (s.setRsp x).fr = s.fr := rfl
@[simp] theorem State.setRsp_rsp (s : State) (x : Response) : (s.setRsp x).rsp = x := rfl
@[simp] theorem State.setRsp_free (s : State) (x : Response) : (s.setRsp x).free = s.free := rfl
@[simp] theorem State.setRsp_turns (s : State) (x : Response) : (s.setRsp x).turns = s.turns := rfl
@[simp] theorem State.setRsp_inputs (s : State) (x : Response) : (s.setRsp x).inputs = s.inputs := rfl
@[simp] theorem State.setRsp_last (s : State) (x : Response) : (s.setRsp x).last = s.last := rfl

@[simp] theorem State.setFree_opr (s : State) (x : Nat) : (s.setFree x).opr = s.opr := rfl
@[simp] theorem State.setFree_mode (s : State) (x : Nat) : (s.setFree x).mode = s.mode := rfl
@[simp] theorem State.setFree_kse (s : State) (x : Nat) : (s.setFree x).kse = s.kse := rfl
@[simp] theorem State.setFree_seeA (s : State) (x : Nat) : (s.setFree x).seeA = s.seeA := rfl
@[simp] theorem State.setFree_seeN (s : State) (x : Nat) : (s.setFree x).seeN = s.seeN := rfl
@[simp] theorem State.setFree_eqo (s : State) (x : Nat) : (s.setFree x).eqo = s.eqo := rfl
@[simp] theorem State.setFree_fr (s : State) (x : Nat) : (s.setFree x).fr = s.fr := rfl
@[simp] theorem State.setFree_rsp (s : State) (x : Nat) : (s.setFree x).rsp = s.rsp := rfl
@[simp] theorem State.setFree_free (s : State) (x : Nat) : (s.setFree x).free = x := rfl
@[simp] theorem State.setFree_turns (s : State) (x : Nat) : (s.setFree x).turns = s.turns := rfl
@[simp] theorem State.setFree_inputs (s : State) (x : Nat) : (s.setFree x).inputs = s.inputs := rfl
@[simp] theorem State.setFree_last (s : State) (x : Nat) : (s.setFree x).last = s.last := rfl

@[simp] theorem State.setTurns_opr (s : State) (x : List Engine) : (s.setTurns x).opr = s.opr := rfl
@[simp] theorem State.setTurns_mode (s : State) (x : List Engine) : (s.setTurns x).mode = s.mode := rfl
@[simp] theorem State.setTurns_kse (s : State) (x : List Engine) : (s.setTurns x).kse = s.kse := rfl
@[simp] theorem State.setTurns_seeA (s : State) (x : List Engine) : (s.setTurns x).seeA = s.seeA := rfl
@[simp] theorem State.setTurns_seeN (s : State) (x : List Engine) : (s.setTurns x).seeN = s.seeN := rfl
@[simp] theorem State.setTurns_eqo (s : State) (x : List Engine) : (s.setTurns x).eqo = s.eqo := rfl
@[simp] theorem State.setTurns_fr (s : State) (x : List Engine) : (s.setTurns x).fr = s.fr := rfl
@[simp] theorem State.setTurns_rsp (s : State) (x : List Engine) : (s.setTurns x).rsp = s.rsp := rfl
@[simp] theorem State.setTurns_free (s : State) (x : List Engine) : (s.setTurns x).free = s.free := rfl
@[simp] theorem State.setTurns_turns (s : State) (x : List Engine) : (s.setTurns x).turns = x := rfl
@[simp] theorem State.setTurns_inputs (s : State) (x : List Engine) : (s.setTurns x).inputs = s.inputs := rfl
@[simp] theorem State.setTurns_last (s : State) (x : List Engine) : (s.setTurns x).last = s.last := rfl

@[simp] theorem State.setInputs_opr (s : State) (x : List HostEvent) : (s.setInputs x).opr = s.opr := rfl
@[simp] theorem State.setInputs_mode (s : State) (x : List HostEvent) : (s.setInputs x).mode = s.mode := rfl
@[simp] theorem State.setInputs_kse (s : State) (x : List HostEvent) : (s.setInputs x).kse = s.kse := rfl
@[simp] theorem State.setInputs_seeA (s : State) (x : List HostEvent) : (s.setInputs x).seeA = s.seeA := rfl
@[simp] theorem State.setInputs_seeN (s : State) (x : List HostEvent) : (s.setInputs x).seeN = s.seeN := rfl
@[simp] theorem State.setInputs_eqo (s : State) (x : List HostEvent) : (s.setInputs x).eqo = s.eqo := rfl
@[simp] theorem State.setInputs_fr (s : State) (x : List HostEvent) : (s.setInputs x).fr = s.fr := rfl
@[simp] theorem State.setInputs_rsp (s : State) (x : List HostEvent) : (s.setInputs x).rsp = s.rsp := rfl
@[simp] theorem State.setInputs_free (s : State) (x : List HostEvent) : (s.setInputs x).free = s.free := rfl
@[simp] theorem State.setInputs_turns (s : State) (x : List HostEvent) : (s.setInputs x).turns = s.turns := rfl
@[simp] theorem State.setInputs_inputs (s : State) (x : List HostEvent) : (s.setInputs x).inputs = x := rfl
@[simp] theorem State.setInputs_last (s : State) (x : List HostEvent) : (s.setInputs x).last = s.last := rfl

@[simp] theorem State.setLast_opr (s : State) (x : LastRequest) : (s.setLast x).opr = s.opr := rfl
@[simp] theorem State.setLast_mode (s : State) (x : LastRequest) : (s.setLast x).mode = s.mode := rfl
@[simp] theorem State.setLast_kse (s : State) (x : LastRequest) : (s.setLast x).kse = s.kse := rfl
@[simp] theorem State.setLast_seeA (s : State) (x : LastRequest) : (s.setLast x).seeA = s.seeA := rfl
@[simp] theorem State.setLast_seeN (s : State) (x : LastRequest) : (s.setLast x).seeN = s.seeN := rfl
@[simp] theorem State.setLast_eqo (s : State) (x : LastRequest) : (s.setLast x).eqo = s.eqo := rfl
@[simp] theorem State.setLast_fr (s : State) (x : LastRequest) : (s.setLast x).fr = s.fr := rfl
@[simp] theorem State.setLast_rsp (s : State) (x : LastRequest) : (s.setLast x).rsp = s.rsp := rfl
@[simp] theorem State.setLast_free (s : State) (x : LastRequest) : (s.setLast x).free = s.free := rfl
@[simp] theorem State.setLast_turns (s : State) (x : LastRequest) : (s.setLast x).turns = s.turns := rfl
@[simp] theorem State.setLast_inputs (s : State) (x : LastRequest) : (s.setLast x).inputs = s.inputs := rfl
@[simp] theorem State.setLast_last (s : State) (x : LastRequest) : (s.setLast x).last = x := rfl

/-! Setting a field twice keeps the second value; setting it to what it holds changes nothing. -/

@[simp] theorem State.setOpr_setOpr (s : State) (x y : OperandLatch) : (s.setOpr x).setOpr y = s.setOpr y := rfl
@[simp] theorem State.setOpr_self (s : State) : s.setOpr s.opr = s := rfl
@[simp] theorem State.setMode_setMode (s : State) (x y : Mode) : (s.setMode x).setMode y = s.setMode y := rfl
@[simp] theorem State.setMode_self (s : State) : s.setMode s.mode = s := rfl
@[simp] theorem State.setKse_setKse (s : State) (x y : Kse) : (s.setKse x).setKse y = s.setKse y := rfl
@[simp] theorem State.setKse_self (s : State) : s.setKse s.kse = s := rfl
@[simp] theorem State.setSeeA_setSeeA (s : State) (x y : SeeA) : (s.setSeeA x).setSeeA y = s.setSeeA y := rfl
@[simp] theorem State.setSeeA_self (s : State) : s.setSeeA s.seeA = s := rfl
@[simp] theorem State.setSeeN_setSeeN (s : State) (x y : SeeN) : (s.setSeeN x).setSeeN y = s.setSeeN y := rfl
@[simp] theorem State.setSeeN_self (s : State) : s.setSeeN s.seeN = s := rfl
@[simp] theorem State.setEqo_setEqo (s : State) (x y : Eqo) : (s.setEqo x).setEqo y = s.setEqo y := rfl
@[simp] theorem State.setEqo_self (s : State) : s.setEqo s.eqo = s := rfl
@[simp] theorem State.setFr_setFr (s : State) (x y : FatalRecord) : (s.setFr x).setFr y = s.setFr y := rfl
@[simp] theorem State.setFr_self (s : State) : s.setFr s.fr = s := rfl
@[simp] theorem State.setRsp_setRsp (s : State) (x y : Response) : (s.setRsp x).setRsp y = s.setRsp y := rfl
@[simp] theorem State.setRsp_self (s : State) : s.setRsp s.rsp = s := rfl
@[simp] theorem State.setFree_setFree (s : State) (x y : Nat) : (s.setFree x).setFree y = s.setFree y := rfl
@[simp] theorem State.setFree_self (s : State) : s.setFree s.free = s := rfl
@[simp] theorem State.setTurns_setTurns (s : State) (x y : List Engine) : (s.setTurns x).setTurns y = s.setTurns y := rfl
@[simp] theorem State.setTurns_self (s : State) : s.setTurns s.turns = s := rfl
@[simp] theorem State.setInputs_setInputs (s : State) (x y : List HostEvent) : (s.setInputs x).setInputs y = s.setInputs y := rfl
@[simp] theorem State.setInputs_self (s : State) : s.setInputs s.inputs = s := rfl
@[simp] theorem State.setLast_setLast (s : State) (x y : LastRequest) : (s.setLast x).setLast y = s.setLast y := rfl
@[simp] theorem State.setLast_self (s : State) : s.setLast s.last = s := rfl

/-- States that agree in every field are equal. -/
theorem State.eq_of_fields {s t : State}
    (h0 : s.opr = t.opr)
    (h1 : s.mode = t.mode)
    (h2 : s.kse = t.kse)
    (h3 : s.seeA = t.seeA)
    (h4 : s.seeN = t.seeN)
    (h5 : s.eqo = t.eqo)
    (h6 : s.fr = t.fr)
    (h7 : s.rsp = t.rsp)
    (h8 : s.free = t.free)
    (h9 : s.turns = t.turns)
    (h10 : s.inputs = t.inputs)
    (h11 : s.last = t.last) : s = t := by
  cases s; cases t; simp_all

/-- What reset leaves of the values the spec gives (R240). -/
theorem State.reset_mode : State.reset.mode = .ready := rfl
theorem State.reset_fr_valid : State.reset.fr.valid = false := rfl

/-- `ready` and `fatal` are never both 1 (R74). -/
theorem State.not_ready_and_fatal (s : State) : ¬ (s.ready = true ∧ s.fatal = true) := by
  cases h : s.mode <;> simp [State.ready, State.fatal, h]

end Sys2Proof.Machine
end

