-- ==== Sys2Proof/Laws/Operands.lean ====
section
/-!
SUPPORT. Operands: a register read after it is written, every other register after a write, and what a write
leaves alone.
-/

namespace Sys2Proof.Machine

/-- A register holds what was last written to it. -/
theorem readReg_writeReg_self (d : VReg) (x : V128) (s : State) : readReg (writeReg d x s) d = x := by
  cases d <;> simp [readReg, writeReg, memWriteEk, memWriteDk]

/-- A write leaves every other register alone: "none aliases another" (R28). -/
theorem readReg_writeReg_of_ne {d r : VReg} (h : r ≠ d) (x : V128) (s : State) :
    readReg (writeReg d x s) r = readReg s r := by
  cases d <;> cases r <;>
    simp_all [readReg, writeReg, memWriteEk, memWriteDk, Vector.getElem_set, Fin.ext_iff] <;> omega

/-- A write to a V128 register touches nothing but the register files. -/
theorem writeReg_frame (d : VReg) (x : V128) (s : State) :
    (writeReg d x s).opr = s.opr ∧ (writeReg d x s).mode = s.mode ∧
    (writeReg d x s).kse.r = s.kse.r ∧ (writeReg d x s).kse.pos = s.kse.pos ∧
    (writeReg d x s).seeA.i = s.seeA.i ∧ (writeReg d x s).seeA.r = s.seeA.r ∧
    (writeReg d x s).seeA.pos = s.seeA.pos ∧
    (writeReg d x s).seeN.c = s.seeN.c ∧ (writeReg d x s).seeN.pos = s.seeN.pos ∧
    (writeReg d x s).eqo = s.eqo ∧ (writeReg d x s).fr = s.fr ∧ (writeReg d x s).rsp = s.rsp ∧
    (writeReg d x s).free = s.free ∧ (writeReg d x s).turns = s.turns ∧
    (writeReg d x s).inputs = s.inputs ∧ (writeReg d x s).last = s.last := by
  cases d <;> simp [writeReg, memWriteEk, memWriteDk]

/-- The index of an entry, where there is one. -/
theorem entryOf_of_lt {i : Nat} (h : i < 11) : entryOf i = some ⟨i, h⟩ := by simp [entryOf, h]

theorem entryOf_eq_none {i : Nat} (h : 11 ≤ i) : entryOf i = none := by
  simp [entryOf, Nat.not_lt.2 h]

/-- Where `RCON` is defined, KEYSTEP takes it (R112). -/
theorem roundConstant_of_rcon {r : BitVec 4} {rc : Byte} (h : rcon r.toNat = some rc) : roundConstant r = rc := by
  simp [roundConstant, h]

/-- `MemRead` is the entry. -/
theorem memRead_eq_entry (s : State) (r : Entry) : memRead s r = entry s.opr.rk r.val := by
  simp [memRead, entry]

end Sys2Proof.Machine
end

