-- ==== Sys2Proof/Laws/Ops.lean ====
section
/-!
SUPPORT. The shared operations: what each can do, said once.
-/

namespace Sys2Proof.Machine

@[simp] theorem andThen_next (s : State) (f : State → Result) : andThen (.next s) f = f s := rfl
@[simp] theorem andThen_fault (r : Fault) (f : State → Result) : andThen (.fault r) f = .fault r := rfl
@[simp] theorem andThen_refused (r : Refusal) (f : State → Result) : andThen (.refused r) f = .refused r := rfl

/-- A sequence answers a next state exactly where both parts do. -/
theorem andThen_eq_next {o : Result} {f : State → Result} {u : State} :
    andThen o f = .next u ↔ ∃ t, o = .next t ∧ f t = .next u := by
  cases o <;> simp

/-- A counter that counts down does not wrap (R115). -/
theorem countDown_eq (c : Nat) : countDown c = c - 1 := by
  unfold countDown
  split <;> omega

/-- The accept events leave READY for BUSY and write only the latch and the positions (R27, R74). -/
theorem acceptExpand_mode (key : V128) (s : State) : (acceptExpand key s).mode = .busy := rfl
theorem acceptChainA_mode (k : Sched) (b : V128) (n : Nat) (s : State) :
    (acceptChainA k b n s).mode = .busy := rfl
theorem acceptChainN_mode (k : Sched) (b : V128) (n : Nat) (s : State) :
    (acceptChainN k b n s).mode = .busy := rfl
theorem acceptCheck_mode (k : Sched) (b : V128) (n : Nat) (s : State) :
    (acceptCheck k b n s).mode = .busy := rfl

/-- Where the capability is present the check changes nothing (R216). -/
theorem requireAccel_hardware (s : State) : requireAccel Config.hardware s = .next s := rfl

/-- What the capability check can answer. -/
theorem requireAccel_cases (cfg : Config) (s : State) :
    (cfg.hasAesAccel = true ∧ requireAccel cfg s = .next s) ∨
    (cfg.hasAesAccel = false ∧ requireAccel cfg s = .refused .capabilityAbsent) := by
  cases h : cfg.hasAesAccel <;> simp [requireAccel, h]

/-- A respond event writes the response ports, the mode, the index of the free values and the record of the run,
nothing else. -/
theorem respond_eq (r : Response) (m : Mode) (s : State) :
    respond r m s = { s with rsp := r, mode := m, free := s.free + 1, last := .responded r.status } := rfl

/-- Entering BUSY writes the mode and the record of the run, nothing else. -/
theorem enterBusy_eq (s : State) : enterBusy s = { s with mode := .busy, last := .running } := rfl

/-- What raising EquivalenceMismatch does, whole (R213). -/
theorem raiseMismatch_eq (oa on : V128) (i : BitVec 4) (s : State) :
    raiseMismatch oa on i s =
      { s with
        fr := { valid := true, cause := 1, oa := oa, on := on, diff := i }
        rsp := { freeResponse s.free 1 with block := oa, blockN := on, diff := i }
        mode := .fatal
        free := s.free + 1
        last := .responded 1
        eqo := { s.eqo with pos := .idle } } := rfl

/-- After reset no request is under way (R240, R248). -/
theorem lastAfterReset_of_busy {s : State} (h : s.mode = .busy) : lastAfterReset s = .abandoned := by
  simp [lastAfterReset, h]

theorem lastAfterReset_of_not_busy {s : State} (h : s.mode ≠ .busy) : lastAfterReset s = s.last := by
  simp [lastAfterReset, h]

/-- What the reset event does, whole (R240). -/
theorem resetEvent_eq (s : State) :
    resetEvent s = { State.reset with inputs := s.inputs, turns := s.turns, free := s.free, last := lastAfterReset s } := rfl

end Sys2Proof.Machine
end

