-- ==== Sys2Proof/Laws/PerInstr.lean ====
section
/-!
SUPPORT. Facts about the instructions as terms, one lemma for each constructor.
-/

namespace Sys2Proof.Laws.LineOfInstr

/-- An instruction has a line in a requester's program exactly where it is no micro-operation (R78). -/
def Statement (i : Instr) : Prop := (encode i).isSome = !i.isMicro

theorem expand (key : V128) : Statement (.expand key) := rfl
theorem chainA (k : Sched) (b : V128) (n : Nat) : Statement (.chainA k b n) := rfl
theorem chainN (k : Sched) (b : V128) (n : Nat) : Statement (.chainN k b n) := rfl
theorem check (k : Sched) (b : V128) (n : Nat) : Statement (.check k b n) := rfl
theorem xor128 (d : VReg) (a b : VSrc) : Statement (.xor128 d a b) := rfl
theorem subbytes (d : VReg) (s : VSrc) : Statement (.subbytes d s) := rfl
theorem shiftrows (d : VReg) (s : VSrc) : Statement (.shiftrows d s) := rfl
theorem mixcolumns (d : VReg) (s : VSrc) : Statement (.mixcolumns d s) := rfl
theorem invmixcolumns (d : VReg) (s : VSrc) : Statement (.invmixcolumns d s) := rfl
theorem round (d : VReg) (s k : VSrc) : Statement (.round d s k) := rfl
theorem finalround (d : VReg) (s k : VSrc) : Statement (.finalround d s k) := rfl
theorem keystep (d : VReg) (p : VSrc) (r : BitVec 4) : Statement (.keystep d p r) := rfl
theorem kseLoop (site : KseLoopStep) : Statement (.kseLoop site) := rfl
theorem seeaLoop (site : SeeALoopStep) : Statement (.seeaLoop site) := rfl
theorem seenLoop (site : SeeNLoopStep) : Statement (.seenLoop site) := rfl
theorem eqoCompare (site : CompareStep) : Statement (.eqoCompare site) := rfl
theorem potA (key b : V128) (n : Nat) : Statement (.potA key b n) := rfl
theorem potN (key b : V128) (n : Nat) : Statement (.potN key b n) := rfl
theorem potCheck (key b : V128) (n : Nat) : Statement (.potCheck key b n) := rfl

end Sys2Proof.Laws.LineOfInstr
end

