-- ==== Sys2Proof/Laws/Sequencers.lean ====
section
/-!
SUPPORT. The sequencers: a step of a unit that is not its respond step changes that unit's registers only, and
a run of steps splits.
-/

namespace Sys2Proof.Machine

/-! ## Changing one unit's registers only -/

/-- `t` is `s` but for SEE-A's registers. -/
def OnlySeeA (s t : State) : Prop := t = s.setSeeA t.seeA

/-- `t` is `s` but for SEE-N's registers. -/
def OnlySeeN (s t : State) : Prop := t = s.setSeeN t.seeN

/-- `t` is `s` but for KSE's registers. -/
def OnlyKse (s t : State) : Prop := t = s.setKse t.kse

theorem OnlySeeA.trans {s t u : State} (h : OnlySeeA s t) (k : OnlySeeA t u) : OnlySeeA s u := by
  unfold OnlySeeA at *; rw [k, h]; rfl

theorem OnlySeeN.trans {s t u : State} (h : OnlySeeN s t) (k : OnlySeeN t u) : OnlySeeN s u := by
  unfold OnlySeeN at *; rw [k, h]; rfl

theorem OnlyKse.trans {s t u : State} (h : OnlyKse s t) (k : OnlyKse t u) : OnlyKse s u := by
  unfold OnlyKse at *; rw [k, h]; rfl

theorem onlySeeA_set (s : State) (x : SeeA) : OnlySeeA s (s.setSeeA x) := rfl
theorem onlySeeN_set (s : State) (x : SeeN) : OnlySeeN s (s.setSeeN x) := rfl
theorem onlyKse_set (s : State) (x : Kse) : OnlyKse s (s.setKse x) := rfl

theorem onlySeeN_loadKeys (s : State) : OnlySeeN s (loadKeys s) := rfl

/-! ## Loop control -/

theorem execKseLoop_frame {site : KseLoopStep} {s t : State} (h : execKseLoop site s = .next t) : OnlyKse s t := by
  cases site <;> simp only [execKseLoop] at h
  · cases h; rfl
  · split at h <;> cases h <;> rfl

theorem execSeeaLoop_frame {site : SeeALoopStep} {s t : State} (h : execSeeaLoop site s = .next t) :
    OnlySeeA s t := by
  cases site <;> simp only [execSeeaLoop] at h
  · split at h <;> cases h <;> rfl
  · split at h <;> cases h <;> rfl
  · cases h; rfl

theorem execSeenLoop_frame {site : SeeNLoopStep} {s t : State} (h : execSeenLoop site s = .next t) :
    OnlySeeN s t := by
  cases site <;> simp only [execSeenLoop] at h
  · split at h <;> cases h <;> rfl
  · cases h; rfl

/-! ## The sequencers -/

/-- A step of SEE-A before A7 changes SEE-A's registers only (R30). -/
theorem seeAStep_frame {s t : State} (hp : s.seeA.pos ≠ .a7) (h : seeAStep s = .next t) : OnlySeeA s t := by
  unfold seeAStep at h
  split at h
  case h_1 => cases h; rfl
  case h_2 => cases h; rfl
  case h_3 => exact execSeeaLoop_frame h
  case h_4 => cases h; rfl
  case h_5 =>
    unfold seeAA3 at h
    split at h
    · cases h; rfl
    · cases h
  case h_6 => exact execSeeaLoop_frame h
  case h_7 => cases h; rfl
  case h_8 => exact execSeeaLoop_frame h
  case h_9 h9 => exact absurd h9 hp

/-- A step of SEE-N before N7 changes SEE-N's registers only (R28, R29). -/
theorem seeNStep_frame {s t : State} (hp : s.seeN.pos ≠ .n7) (h : seeNStep s = .next t) : OnlySeeN s t := by
  unfold seeNStep at h
  split at h
  case h_1 => cases h; rfl
  case h_2 =>
    cases h; rfl
  case h_3 => cases h; rfl
  case h_4 => cases h; rfl
  case h_5 => exact execSeenLoop_frame h
  case h_6 => cases h; rfl
  case h_7 => cases h; rfl
  case h_8 => exact execSeenLoop_frame h
  case h_9 => cases h; rfl
  case h_10 h10 => exact absurd h10 hp

/-- A step of KSE before K4 changes KSE's registers only (R31). -/
theorem kseStep_frame {s t : State} (hp : s.kse.pos ≠ .k4) (h : kseStep s = .next t) : OnlyKse s t := by
  unfold kseStep at h
  split at h
  case h_1 => cases h; rfl
  case h_2 => cases h; rfl
  case h_3 =>
    unfold kseK1 at h
    split at h
    · cases h
    · split at h
      · cases h; rfl
      · cases h
  case h_4 =>
    unfold kseK2 at h
    split at h
    · cases h; rfl
    · cases h; rfl
  case h_5 => exact execKseLoop_frame h
  case h_6 h6 => exact absurd h6 hp

/-! ## Runs -/

/-- A run of `j + k` steps is a run of `j` and then one of `k`. -/
theorem runTicks_add (j k : Nat) (s : State) : runTicks (j + k) s = andThen (runTicks j s) (runTicks k) := by
  induction j generalizing s with
  | zero => simp [runTicks]
  | succ j ih =>
    rw [Nat.add_right_comm]
    unfold runTicks
    split
    · cases h : tick s <;> simp [ih]
    · next hm =>
      cases k with
      | zero => rfl
      | succ k => simp [runTicks, hm]

/-- Outside BUSY a run of steps does nothing. -/
theorem runTicks_of_not_busy {s : State} (h : s.mode ≠ .busy) (k : Nat) : runTicks k s = .next s := by
  cases k <;> simp [runTicks, h]

end Sys2Proof.Machine
end

