-- ==== Sys2Proof/Tests/Slice0.lean ====
section
/-!
SUPPORT. Tests. Expected values are the spec's own vectors (`95_test_vectors.md`, the vector named at each test) or
are worked out by hand from the rule named. The last part gives a witness for the hypotheses of every statement that
has any.
-/

namespace Sys2Proof.Tests

open Sys2Proof Sys2Proof.Machine

/-! ## Helpers -/

/-- The key and the block of D0 §8 (T1), and the schedule of that key (T30, column `ek`). -/
def key1 : V128 := hex 0x9a84940ffef5b0d70199fc67f46ea27a
def block1 : V128 := hex 0xd666ccd8d593c23da8db6b5b1413b13a
def sched1 : Sched := #v[
  hex 0x9a84940ffef5b0d70199fc67f46ea27a, hex 0x04be4eb0fa4bfe67fbd202000fbca07a,
  hex 0x635e94c699156aa162c768a16d7bc8db, hex 0x46b62dfadfa3475bbd642ffad01fe721,
  hex 0x8e22d08a518197d1ece5b82b3cfa5f0a, hex 0xb3edb761e26c20b00e89989b3273c791,
  hex 0x1c2b3642fe4716f2f0ce8e69c2bd49f8, hex 0x26107767d85761952899effcea24a604,
  hex 0x903485e04863e47560fa0b898adead8d, hex 0x96a1d89edec23cebbe38376234e69aef,
  hex 0x2e190786f0db3b6d4ee30c0f7a0596e0]

/-- Whether the outcome is a next state that passes `p`. -/
def nextWith (r : Result) (p : State → Bool) : Bool :=
  match r with
  | .next s => p s
  | .fault _ => false
  | .refused _ => false

/-- Small states: reset with one thing changed. -/
def withA (x : V128) : State := State.reset.setSeeA { State.reset.seeA with s := x }
def busy (op : BitVec 2) : State := (enterBusy State.reset).setOpr { State.reset.opr with op := op }
def fatalState : State :=
  ((State.reset.setMode .fatal).setFr { valid := true, cause := 1, oa := 1, on := 0, diff := 0 }).setLast (.responded 1)

/-! ## WellFormed: each check refuses an ill-formed term -/

theorem test_wf_xor_of_seeA : (Instr.xor128 .aS (.reg .aS) (.rk 0)).wf = true := by decide
theorem test_wf_refuses_xor_in_kse : (Instr.xor128 (.ek 1) (.reg (.ek 0)) (.oprKey)).wf = false := by decide
theorem test_wf_refuses_xor_across_units : (Instr.xor128 .aS (.reg (.v 0)) (.rk 0)).wf = false := by decide
theorem test_wf_refuses_subbytes_of_key : (Instr.subbytes .aS .oprKey).wf = false := by decide
theorem test_wf_refuses_shiftrows_in_kse : (Instr.shiftrows (.ek 0) (.reg (.ek 0))).wf = false := by decide
theorem test_wf_refuses_mixcolumns_in_kse : (Instr.mixcolumns (.dk 1) (.reg (.ek 1))).wf = false := by decide
theorem test_wf_refuses_invmixcolumns_in_engine : (Instr.invmixcolumns (.v 1) (.rk 1)).wf = false := by decide
theorem test_wf_refuses_reading_dk : (Instr.invmixcolumns (.dk 1) (.reg (.dk 1))).wf = false := by decide
theorem test_wf_refuses_round_in_kse : (Instr.round (.ek 1) (.reg (.ek 1)) (.rk 1)).wf = false := by decide
theorem test_wf_refuses_finalround_across_units :
    (Instr.finalround (.v 0) (.reg (.v 0)) (.reg .aS)).wf = false := by decide
theorem test_wf_refuses_keystep_zero : (Instr.keystep (.ek 0) (.reg (.ek 0)) 0).wf = false := by decide
theorem test_wf_refuses_keystep_eleven : (Instr.keystep (.ek 1) (.reg (.ek 0)) 11).wf = false := by decide
theorem test_wf_refuses_keystep_in_engine : (Instr.keystep (.v 1) (.rk 0) 1).wf = false := by decide

/-- Every micro-operation of the step tables is well formed (R116, R135, R155, R175). -/
theorem test_wf_of_step_tables :
    ([.keystep (.ek 10) (.reg (.ek 9)) 10, .invmixcolumns (.dk 9) (.reg (.ek 9)),
      .xor128 .aS (.reg .aS) (.rk 0), .round .aS (.reg .aS) (.rk 9), .finalround .aS (.reg .aS) (.rk 10),
      .xor128 (.v 10) (.rk 10) (.reg (.v 11)), .xor128 (.v 0) .oprBlock (.reg (.v 11)),
      .round (.v 0) (.reg (.v 0)) (.reg (.v 9)), .finalround (.v 0) (.reg (.v 0)) (.reg (.v 10)),
      .xor128 (.v 0) (.reg (.v 0)) (.reg (.v 11))] : List Instr).all Instr.wf = true := by decide

/-! ## Decode: words written out from R72 and R76 -/

/-- `req_op = 00`. -/
theorem test_decode_expand :
    decodeRequest { op := 0b00#2, key := 0x7aa26ef467fc9901d7b0f5fe0f94849a#128, sched := 0, block := 0, n := 0 } =
      .expand key1 := by decide
/-- `req_op = 01`; a schedule port with 1 at bit 128 has byte 0 of entry 1 equal to 01. -/
theorem test_decode_chainA :
    decodeRequest { op := 0b01#2, key := 5, sched := BitVec.ofNat 1408 (2 ^ 128), block := 7, n := 2 } =
      .chainA #v[0, 1, 0, 0, 0, 0, 0, 0, 0, 0, 0] 7 2 := by decide +kernel
/-- `req_op = 10`; bit `128*10 + 8*15` is bit 0 of byte 15 of entry 10. -/
theorem test_decode_chainN :
    decodeRequest { op := 0b10#2, key := 5, sched := BitVec.ofNat 1408 (2 ^ 1400), block := 7, n := 2 } =
      .chainN #v[0, 0, 0, 0, 0, 0, 0, 0, 0, 0, hex 0x01] 7 2 := by decide +kernel
/-- `req_op = 11`. -/
theorem test_decode_check :
    decodeRequest { op := 0b11#2, key := 5, sched := 3, block := 7, n := 2 } =
      .check #v[3, 0, 0, 0, 0, 0, 0, 0, 0, 0, 0] 7 2 := by decide +kernel
theorem test_decode_pot_lines :
    decode (.pot .a 1 2 3) = .potA 1 2 3 ∧ decode (.pot .n 1 2 3) = .potN 1 2 3 ∧
      decode (.pot .check 1 2 3) = .potCheck 1 2 3 := by decide
/-- A micro-operation has no encoding (R78). -/
theorem test_encode_micro_none : encode (.round .aS (.reg .aS) (.rk 1)) = none := by decide
/-- The byte image: `req_op` in byte 0, the key's byte 0 in byte 1 (log entry 6). -/
theorem test_decode_bytes_expand :
    decodeBytes 64 ([0x00, 0x9a] ++ List.replicate 215 0x00) = .ok (.expand (hex (0x9a * 2 ^ 120)), []) := by decide +kernel
theorem test_decode_bytes_truncated : decodeBytes 64 [0x00, 0x9a] = .error .truncated := by decide
/-- The image for `CNT_W = 20`, three bytes of count: 0xf4240 is 1,000,000, and bits 23 to 20 belong to no port. -/
theorem test_decode_bytes_chainN :
    decodeBytes 20 ([0x02] ++ List.replicate 208 0x00 ++ [0x40, 0x42, 0xaf] ++ [0x77]) =
      .ok (.chainN zeroSched 0 1000000, [0x77]) := by decide +kernel
/-- R245, R8: on 20 bits 2^20 - 1 is expressible and 2^20 is not. -/
theorem test_expressible : (Instr.chainA zeroSched 0 (2 ^ 20 - 1)).expressible 20 = true ∧
    (Instr.chainA zeroSched 0 (2 ^ 20)).expressible 20 = false ∧ Config.hardware.cntW = 64 := by decide
theorem test_table_words :
    decodeTableWord 8 0 = some (.expand 0) ∧ decodeTableWord 8 1 = some (.chainA zeroSched 0 0) ∧
      decodeTableWord 8 2 = some (.chainN zeroSched 0 0) ∧ decodeTableWord 8 3 = some (.check zeroSched 0 0) := by
  decide +kernel
/-- The integer 95_test_vectors.md section 6 gives for the key of T30. -/
theorem test_hex_is_byte_reversed : key1 = 0x7aa26ef467fc9901d7b0f5fe0f94849a#128 := by decide

/-! ## The datapath -/

/-- T10. -/
theorem test_gf : xtime 0x57 = 0xae ∧ xtime 0x80 = 0x1b ∧ xtime 0xff = 0xe5 ∧ gmul 0x57 0x83 = 0xc1 ∧
    gmul 0x57 0x13 = 0xfe ∧ gmul 0x53 0xca = 0x01 := by decide
/-- T11. -/
theorem test_sbox : sbox 0x00 = 0x63 ∧ sbox 0x53 = 0xed ∧ sbox 0xc9 = 0xdd ∧ sbox 0x6e = 0x9f ∧
    sbox 0xff = 0x16 := by decide

/-- T20, round 1, SUBBYTES. -/
theorem test_subbytes : nextWith (exec (.subbytes .aS (.reg .aS)) (withA (hex 0x4ce258d72b6672eaa942973ce07d1340)))
    (fun t => t.seeA.s == hex 0x29986a0ef1334087d32c88ebe1ff7d09) = true := by decide
/-- T12. -/
theorem test_shiftrows : nextWith (exec (.shiftrows .aS (.reg .aS)) (withA (hex 0x000102030405060708090a0b0c0d0e0f)))
    (fun t => t.seeA.s == hex 0x00050a0f04090e03080d02070c01060b) = true := by decide
/-- T13. -/
theorem test_mixcolumns : nextWith (exec (.mixcolumns .aS (.reg .aS)) (withA (hex 0x000102030405060708090a0b0c0d0e0f)))
    (fun t => t.seeA.s == hex 0x02070005060304010a0f080d0e0b0c09) = true := by decide
/-- T13: `dk[1]` from `ek[1]` of T30, into another register file. -/
theorem test_invmixcolumns : nextWith (exec (.invmixcolumns (.dk 1) (.reg (.ek 1)))
      (memWriteEk 1 (hex 0x04be4eb0fa4bfe67fbd202000fbca07a) State.reset))
    (fun t => readReg t (.dk 1) == hex 0x0a2fc8a9e0f9b4850864a7e0f4bd89a9 &&
      readReg t (.ek 1) == hex 0x04be4eb0fa4bfe67fbd202000fbca07a) = true := by decide
/-- T14, the combined key of T41. -/
theorem test_xor128 : nextWith (exec (.xor128 (.v 10) (.rk 10) (.reg (.v 11)))
      (writeReg (.v 11) key1 (State.reset.setOpr { State.reset.opr with rk := sched1 })))
    (fun t => readReg t (.v 10) == hex 0xb49d93890e2e8bba4f7af0688e6b349a) = true := by decide
/-- T20, round 1. -/
theorem test_round : nextWith (exec (.round .aS (.reg .aS) (.rk 1))
      ((withA (hex 0x4ce258d72b6672eaa942973ce07d1340)).setOpr { State.reset.opr with rk := sched1 }))
    (fun t => t.seeA.s == hex 0x827b4462046bcb22b1dd68eece5d7f57) = true := by decide
/-- T20, the final round. -/
theorem test_finalround : nextWith (exec (.finalround .aS (.reg .aS) (.rk 10))
      ((withA (hex 0xcbb1e660bcb583cb4001a30b0f1f67f6)).setOpr { State.reset.opr with rk := sched1 }))
    (fun t => t.seeA.s == hex 0x31cc0dc495a7bebd472382100ccd7acb) = true := by decide
/-- T35, `r = 10`: the round constant `36`. -/
theorem test_keystep : nextWith (exec (.keystep (.ek 10) (.reg (.ek 9)) 10)
      (memWriteEk 9 (hex 0x96a1d89edec23cebbe38376234e69aef) State.reset))
    (fun t => readReg t (.ek 10) == hex 0x2e190786f0db3b6d4ee30c0f7a0596e0) = true := by decide
/-- R112: `RCON(0)` is not defined; KEYSTEP runs all the same (log entry 7). -/
theorem test_keystep_without_constant : nextWith (exec (.keystep (.ek 1) (.reg (.ek 0)) 0) State.reset)
    (fun t => t.mode == .ready && readReg t (.ek 0) == 0) = true := by decide

/-! ## Sequencer control -/

theorem test_kseLoop_last_round : nextWith (exec (.kseLoop .k3) (State.reset.setKse { State.reset.kse with r := 10 }))
    (fun t => t.kse.pos == .k4 && t.kse.r == 10) = true := by decide
theorem test_kseLoop_next_round : nextWith (exec (.kseLoop .k3) (State.reset.setKse { State.reset.kse with r := 9 }))
    (fun t => t.kse.pos == .k1 && t.kse.r == 10) = true := by decide
theorem test_seeaLoop_zero_count : nextWith (exec (.seeaLoop .a1) State.reset) (fun t => t.seeA.pos == .a7) = true := by
  decide
theorem test_seeaLoop_ninth_round : nextWith (exec (.seeaLoop .a4) (State.reset.setSeeA { State.reset.seeA with r := 9 }))
    (fun t => t.seeA.pos == .a5 && t.seeA.r == 9) = true := by decide
theorem test_seenLoop_zero_count : nextWith (exec (.seenLoop .nt) State.reset) (fun t => t.seeN.pos == .n6) = true := by
  decide
theorem test_seenLoop_does_not_wrap : nextWith (exec (.seenLoop .n5) State.reset)
    (fun t => t.seeN.pos == .nt && t.seeN.c == 0) = true := by decide
/-- T51, second row: byte 7 differs. -/
theorem test_compare_byte_seven : nextWith (exec (.eqoCompare .q2) (State.reset.setEqo { State.reset.eqo with
      oa := hex 0x31cc0dc495a7bebd472382100ccd7acb, on := hex 0x31cc0dc495a7bebc472382100ccd7acb }))
    (fun t => t.eqo.diff == 7 && t.eqo.pos == .q4) = true := by decide
/-- T51, third row: bytes 0 and 15 differ, the least is reported. -/
theorem test_compare_least : diffIndex (hex 0x31cc0dc495a7bebd472382100ccd7acb) (hex 0x30cc0dc495a7bebd472382100ccd7aca) = 0 ∧
    diffIndex (hex 0x31cc0dc495a7bebd472382100ccd7acb) (hex 0x31cc0dc495a7bebd472382100ccd7aca) = 15 := by decide

/-! ## The operations, each one step of the machine -/

/-- T30. -/
theorem test_expand : nextWith (step (State.reset.setInputs [.call (.op (requestOf .expand key1 zeroSched 0 0))]))
    (fun t => t.rsp.ek == sched1 && entry t.rsp.dk 1 == hex 0x0a2fc8a9e0f9b4850864a7e0f4bd89a9 &&
      entry t.rsp.dk 9 == hex 0x0f7ba3a68a48e5ecaa449ea3edd2168e && t.mode == .ready) = true := by decide +kernel
/-- T40, `n = 1`; `A.R = 9` and `A.I = 0` as in P1. -/
theorem test_chainA : nextWith (step (State.reset.setInputs [.call (.op (requestOf .chainA 0 sched1 block1 1))]))
    (fun t => t.rsp.block == hex 0x31cc0dc495a7bebd472382100ccd7acb && t.rsp.status == 0 &&
      t.seeA.r == 9 && t.seeA.i == 0) = true := by decide +kernel
/-- T40, `n = 2`; `V[10]` as in T41. -/
theorem test_chainN : nextWith (step (State.reset.setInputs [.call (.op (requestOf .chainN 0 sched1 block1 2))]))
    (fun t => t.rsp.block == hex 0xeeb0203dac90dcb60e1d0bf89e1fad83 && t.seeN.c == 0 &&
      readReg t (.v 10) == hex 0xb49d93890e2e8bba4f7af0688e6b349a) = true := by decide +kernel
/-- T50, `n = 1`, with SEE-N's first steps taken before SEE-A's. -/
theorem test_check : nextWith (exec (.check sched1 block1 1) (State.reset.setTurns [.seeN, .seeN, .seeA, .seeN]))
    (fun t => t.rsp.status == 0 && t.rsp.block == hex 0x31cc0dc495a7bebd472382100ccd7acb &&
      t.rsp.blockN == t.rsp.block && t.mode == .ready && !t.fr.valid) = true := by decide +kernel
/-- T40, `n = 0`: SEE-A performs no micro-operation. -/
theorem test_chainA_zero : nextWith (exec (.chainA sched1 block1 0) State.reset)
    (fun t => t.rsp.block == block1 && t.seeA.r == 0) = true := by decide +kernel
/-- P5 (T21). -/
theorem test_potA : nextWith (exec (.potA (hex 0x2b7e151628aed2a6abf7158809cf4f3c) (hex 0x3243f6a8885a308d313198a2e0370734) 1)
      State.reset) (fun t => t.rsp.block == hex 0x3925841d02dc09fbdc118597196a0b32) = true := by decide +kernel
/-- T42, FIPS-197 Appendix C.1. -/
theorem test_potN : nextWith (exec (.potN (hex 0x000102030405060708090a0b0c0d0e0f) (hex 0x00112233445566778899aabbccddeeff) 1)
      State.reset) (fun t => t.rsp.block == hex 0x69c4e0d86a7b0430d8cdb78070b4c55a) = true := by decide +kernel
/-- T42, the all-zero known answer. -/
theorem test_potCheck : nextWith (exec (.potCheck 0 0 1) State.reset)
    (fun t => t.rsp.status == 0 && t.rsp.block == hex 0x66e94bd4ef8a2c3b884cfa59ca342b2e &&
      t.rsp.blockN == t.rsp.block) = true := by decide +kernel
/-- The words of the opcode table run as the first instruction after reset. -/
theorem test_table_words_run :
    nextWith (step (State.reset.withFetchWord 8 0)) (fun t => t.mode == .ready) = true ∧
    nextWith (step (State.reset.withFetchWord 8 1)) (fun t => t.mode == .ready) = true ∧
    nextWith (step (State.reset.withFetchWord 8 2)) (fun t => t.mode == .ready) = true ∧
    nextWith (step (State.reset.withFetchWord 8 3)) (fun t => t.mode == .ready) = true := by decide +kernel
/-- T52: the oracle over SEE-A and a native engine without the final un-whitening, `n = 0`: byte 0. -/
theorem test_oracle_defective :
    oracle chain (fun k b n => nativeLoop k n (xor128 b (entry k 0))) sched1 block1 0 =
      .mismatch block1 (hex 0x4ce258d72b6672eaa942973ce07d1340) 0 := by decide
/-- T54, with the capability absent. -/
theorem test_refused : (match chainAOn { hasAesAccel := false } sched1 block1 1 State.reset with
      | .refused r => r == .capabilityAbsent | .next _ => false | .fault _ => false) = true := by decide
/-- T53, last step: EquivalenceMismatch is raised at Q4. -/
theorem test_raise : nextWith (step ((busy 3).setEqo { oa := 1, on := 0, matched := false, diff := 0, pos := .q4 }))
    (fun t => t.fatal && !t.ready && t.fr.valid && t.fr.cause == 1 && t.fr.oa == 1 && t.rsp.status == 1) = true := by
  decide
/-- T55, first row: reset leaves FATAL. -/
theorem test_reset_leaves_fatal : nextWith (step (fatalState.setInputs [.reset]))
    (fun t => t.ready && !t.fatal && !t.fr.valid) = true := by decide
/-- T55, second row: reset in step N3.4 abandons the operation. -/
theorem test_reset_in_busy :
    nextWith (step (((busy 2).setSeeN { State.reset.seeN with c := 1, pos := .n3 3 }).setInputs [.reset]))
      (fun t => t.ready && t.seeN.pos == .idle && t.free == 0) = true := by decide

/-- R248: neither reset nor an abandoned operation ends a run well; a response OK does, and only where no request is to
come. -/
theorem test_run_ends : ¬ EndedWell State.reset ∧ ¬ EndedWell (resetEvent (busy 1)) ∧ ¬ EndedWell (resetEvent fatalState) ∧
    EndedWell (respond (freeResponse 0 0) .ready (busy 0)) ∧
    ¬ EndedWell ((respond (freeResponse 0 0) .ready (busy 0)).setInputs [.call (.pot .a 1 2 3)]) := by
  unfold EndedWell; decide

/-! ## Witnesses: each shows a state and operands that meet all the hypotheses of the statement it names -/

/-- Hypotheses `s.mode = .ready` (and `u.mode = .ready`, `s.free = u.free`): the operations, the pseudo-operations,
OperationsCountResponsesAndTurns, noninterference, interleaving, refusal. -/
theorem witness_ready : State.reset.mode = .ready ∧ (withA 5).mode = .ready ∧ (withA 5) ≠ State.reset ∧
    State.reset.free = (withA 5).free ∧ Instr.isMicro (.chainA sched1 block1 1) = false ∧
    Config.hasAesAccel { hasAesAccel := false } = false ∧
    Config.hasAesAccel { hasAesAccel := true, cntW := 20 } = true := by decide
/-- StepKeepsControlInvariant, StepFromInvariantAnswersNext: a ready state, a busy one and a fatal one. -/
theorem witness_inv : CtlInv State.reset ∧ CtlInv ((busy 1).setSeeA { s := 0, i := 1, r := 9, pos := .a3 }) ∧
    CtlInv fatalState := by
  unfold CtlInv; decide
/-- StepKeepsLoopInvariants: a busy state in the middle of an iteration, and the step it takes. -/
theorem witness_correct :
    let s := ((busy 1).setOpr { op := 1, key := 0, rk := zeroSched, block := 0, n := 1 }).setSeeA
      { s := 0, i := 1, r := 0, pos := .a2 }
    (CtlInv s ∧ s.mode ≠ .fatal ∧
      (kseData s.opr s.kse && seeAData s.opr s.seeA && seeNData s.opr s.seeN && eqoData s) = true) ∧
    nextWith (step s) (fun _ => true) = true := by
  unfold CtlInv; decide
/-- ModeChangesOnlyAsRuled: a step in each mode with no reset, an accepted request among them. -/
theorem witness_mode_changes :
    let p : Request := { op := 0, key := 1, sched := 0, block := 0, n := 0 }
    let s := State.reset.setInputs [.present p]
    let k := (busy 0).setKse { State.reset.kse with pos := .k4 }
    nextEvent s = .present p ∧ nextEvent s ≠ .reset ∧ nextWith (step s) (fun t => t.mode == .busy) = true ∧
    k.mode = .busy ∧ nextEvent k ≠ .reset ∧ nextWith (step k) (fun t => t.mode == .ready && t.free == 1) = true ∧
    nextEvent fatalState ≠ .reset ∧ nextWith (step fatalState) (fun t => t.mode == .fatal) = true := by decide +kernel
/-- ResetLeavesReadyFromEveryMode, in each mode. -/
theorem witness_reset_event : nextEvent ((busy 2).setInputs [.reset]) = .reset ∧
    nextEvent (fatalState.setInputs [.reset, .idle]) = .reset ∧ nextEvent (State.reset.setInputs [.reset]) = .reset := by
  decide
/-- OperationCodeSelectsOperation, AcceptLatchesOperands, UnusedPortsHaveNoEffect: a request for each code. -/
theorem witness_codes : (requestOf .expand 1 sched1 2 3).op = 0#2 ∧ (requestOf .chainA 1 sched1 2 3).op = 1#2 ∧
    (requestOf .chainN 1 sched1 2 3).op = 2#2 ∧ (requestOf .check 1 sched1 2 3).op = 3#2 := by decide
/-- UnusedPortsHaveNoEffect: two different requests that agree in the ports their operation uses. -/
theorem witness_unused_ports :
    let p := requestOf .expand 1 zeroSched 2 3
    let q := requestOf .expand 1 zeroSched 4 5
    p ≠ q ∧ p.op = q.op ∧ p.key = q.key ∧
    let p' := requestOf .check 1 zeroSched 2 3
    let q' := requestOf .check 9 zeroSched 2 3
    p' ≠ q' ∧ p'.op = q'.op ∧ p'.op ≠ 0#2 ∧ p'.sched = q'.sched ∧ p'.block = q'.block ∧ p'.n = q'.n := by decide +kernel
/-- DecodeOfEncodeIsIdentity, RequestWhileNotReadyLeavesNoTrace: instructions of both kinds, states not ready. -/
theorem witness_kinds : Instr.isMicro (.potA 1 2 3) = false ∧ Instr.isMicro (.seenLoop .nt) = true ∧
    (busy 0).ready = false ∧ fatalState.ready = false ∧ fatalState.fatal = true ∧
    nextEvent (fatalState.setInputs [.present (requestOf .expand 1 zeroSched 0 0)]) ≠ .reset := by decide
/-- SchedulePortHoldsItsBytes: the last byte of the last entry; RequestImageRoundTrip: the longest list too short. -/
theorem witness_ranges : 10 < 11 ∧ 15 < 16 ∧ (List.replicate 216 (0 : Byte)).length < requestBytes 64 := by decide +kernel
/-- StepRunsTheCalledInstruction. -/
theorem witness_call :
    (State.reset.setInputs [.call (.pot .a 1 2 0)]).mode = .ready ∧
    (State.reset.setInputs [.call (.pot .a 1 2 0)]).inputs = .call (.pot .a 1 2 0) :: [] ∧
    decodeTableWord 8 3 = some (.check zeroSched 0 0) := by decide +kernel
/-- BusyStepIsASequencerStep, OperandLatchIsConstantWhileBusy: a busy state whose requester presents a request. -/
theorem witness_busy :
    let s := (((busy 1).setSeeA { s := 0, i := 1, r := 1, pos := .a3 }).setInputs
      [.present (requestOf .expand 1 zeroSched 0 0)])
    s.mode = .busy ∧ nextEvent s ≠ .reset ∧ nextWith (step s) (fun t => t.seeA.pos == .a4) = true := by decide
/-- PresentedRequestRunsLikeACall, RequestRespondsAfterItsStepCount: the step counts at the boundary. -/
theorem witness_ticks : requestTicks (requestOf .chainA 0 sched1 block1 0) ≤ 3 ∧
    2 < requestTicks (requestOf .chainA 0 sched1 block1 0) ∧ requestTicks (requestOf .check 0 sched1 block1 1) = 46 := by
  decide
/-- StepKeepsControlInvariant, DecodeOfEncodeIsIdentity, RequestImageRoundTrip: the largest count of the least width, and a
state that holds it with a request to come. -/
theorem witness_counts :
    encode (.chainA zeroSched 1 (2 ^ 20 - 1)) = some (.op (requestOf .chainA 0 zeroSched 1 (2 ^ 20 - 1))) ∧
    (Instr.chainA zeroSched 1 (2 ^ 20 - 1)).expressible 20 = true ∧ (requestOf .chainA 0 zeroSched 1 (2 ^ 20 - 1)).n < 2 ^ 20 ∧
    Config.legal { hasAesAccel := true, cntW := 20 } ∧
    CountsFit 20 ((State.reset.setOpr { State.reset.opr with n := 2 ^ 20 - 1 }).setInputs
      [.call (.op (requestOf .chainA 0 zeroSched 1 (2 ^ 20 - 1)))]) := by
  unfold CountsFit; decide +kernel
/-- ShiftrowsRotatesRows, MixcolumnsMixesColumns and the others over rows and columns: the last of each; a column of
equal bytes. -/
theorem witness_columns : 3 < 4 ∧ ∀ i, i < 4 → byte (hex 0xc6c6c6c6) (4 * 3 + i) = byte (hex 0xc6c6c6c6) (4 * 3) := by
  decide
/-- RoundIsTheFourStepsInOrder. -/
theorem witness_round_key : VSrc.rk 1 ≠ .reg .aS := by decide
/-- KeystepDerivesTheNextRoundKey: both ends of the range; KeystepRunsForEveryRoundIndex: the last byte. -/
theorem witness_round_index : 1 ≤ (1 : BitVec 4).toNat ∧ (1 : BitVec 4).toNat ≤ 10 ∧ 1 ≤ (10 : BitVec 4).toNat ∧
    (10 : BitVec 4).toNat ≤ 10 ∧ 11 < 12 := by decide
/-- SboxTableMatchesItsFormula, RoundConstantsDouble. -/
theorem witness_bytes : (0x53 : Byte) ≠ 0 ∧ gmul 0x53 0xca = 1 ∧ sbox 0x53 = sboxAffine 0xca ∧ 1 ≤ 9 := by decide
/-- KseLoopControlsTheRoundIndex, SeeALoopCountsIterationsAndRounds, SeeNLoopIsACountedBranch: both branches. -/
theorem witness_counters :
    (State.reset.setKse { State.reset.kse with r := 10 }).kse.r = 10 ∧ State.reset.kse.r ≠ 10 ∧
    State.reset.seeA.i = 0 ∧ (State.reset.setSeeA { State.reset.seeA with i := 1, r := 9 }).seeA.i ≠ 0 ∧
    (State.reset.setSeeA { State.reset.seeA with i := 1, r := 9 }).seeA.r = 9 ∧ State.reset.seeA.r ≠ 9 ∧
    State.reset.seeN.c = 0 ∧ (State.reset.setSeeN { State.reset.seeN with c := 1 }).seeN.c ≠ 0 := by decide
/-- CompareFindsTheLeastDifferingByte: each clause, the blocks differing in the last byte only. -/
theorem witness_compare :
    (State.reset.setEqo { State.reset.eqo with matched := true }).eqo.matched = true ∧
    State.reset.eqo.matched = false ∧ (hex 0x01 : V128) ≠ 0 ∧ diffIndex (hex 0x01) 0 = 15 := by decide
/-- KseFollowsItsStepTable: each row, the round index at both ends of its range. -/
theorem witness_kse_table :
    (busy 0).opr.op = 0#2 ∧
    ((busy 0).setKse { State.reset.kse with pos := .k0 }).kse.pos = .k0 ∧
    (((busy 0).setKse { State.reset.kse with r := 1, pos := .k1 }).kse.pos = .k1 ∧ (1 : BitVec 4).toNat = (0 : Fin 10).val + 1) ∧
    (((busy 0).setKse { State.reset.kse with r := 10, pos := .k1 }).kse.r.toNat = (9 : Fin 10).val + 1) ∧
    (((busy 0).setKse { State.reset.kse with r := 9, pos := .k2 }).kse.pos = .k2 ∧ (9 : BitVec 4).toNat = (9 : Fin 10).val) ∧
    (((busy 0).setKse { State.reset.kse with r := 10, pos := .k2 }).kse.r = 10) ∧
    ((busy 0).setKse { State.reset.kse with pos := .k3 }).kse.pos = .k3 ∧
    ((busy 0).setKse { State.reset.kse with pos := .k4 }).kse.pos = .k4 := by decide
/-- SeeAFollowsItsStepTable: each row. -/
theorem witness_seeA_table :
    let at_ (p : SeeAPos) (r : BitVec 4) := (busy 1).setSeeA { State.reset.seeA with r := r, pos := p }
    (at_ .a0 0).opr.op = 1#2 ∧ (at_ .a0 0).seeA.pos = .a0 ∧ (at_ .a1 0).seeA.pos = .a1 ∧ (at_ .a2 0).seeA.pos = .a2 ∧
    (at_ .a3 10).seeA.pos = .a3 ∧ (at_ .a3 10).seeA.r.toNat = (10 : Entry).val ∧ (at_ .a4 9).seeA.pos = .a4 ∧
    (at_ .a5 9).seeA.pos = .a5 ∧ (at_ .a6 9).seeA.pos = .a6 ∧ (at_ .a7 9).seeA.pos = .a7 := by decide
/-- SeeNFollowsItsStepTable: each row. -/
theorem witness_seeN_table :
    let at_ (p : SeeNPos) := (busy 2).setSeeN { State.reset.seeN with pos := p }
    (at_ .n0).opr.op = 2#2 ∧ (at_ .n0).seeN.pos = .n0 ∧ (at_ .n1).seeN.pos = .n1 ∧ (at_ .n2).seeN.pos = .n2 ∧
    (at_ .nt).seeN.pos = .nt ∧ (at_ (.n3 7)).seeN.pos = .n3 (7 : Fin 8).castSucc ∧ (at_ (.n3 8)).seeN.pos = .n3 8 ∧
    (at_ .n4).seeN.pos = .n4 ∧ (at_ .n5).seeN.pos = .n5 ∧ (at_ .n6).seeN.pos = .n6 ∧ (at_ .n7).seeN.pos = .n7 := by decide
/-- EqoFollowsItsStepTable: each row. -/
theorem witness_eqo_table :
    let at_ (q : EqoPos) (a : SeeAPos) (n : SeeNPos) :=
      (((busy 3).setEqo { State.reset.eqo with pos := q }).setSeeA { State.reset.seeA with pos := a }).setSeeN
        { State.reset.seeN with pos := n }
    (at_ .q0 .a0 .n0).opr.op = 3#2 ∧ (at_ .q0 .a0 .n0).eqo.pos = .q0 ∧
    engineToStep (at_ .q0 .a0 .n0) = .seeA ∧ (at_ .q0 .a0 .n0).seeA.pos ≠ .a7 ∧
    engineToStep (at_ .q0 .idle .n0) = .seeN ∧ (at_ .q0 .idle .n0).seeN.pos ≠ .n7 ∧
    engineToStep (at_ .q0 .a7 .n0) = .seeA ∧ (at_ .q0 .a7 .n0).seeA.pos = .a7 ∧
    engineToStep (at_ .q0 .idle .n7) = .seeN ∧ (at_ .q0 .idle .n7).seeN.pos = .n7 ∧
    (at_ .q1 .idle .idle).eqo.pos = .q1 ∧ (at_ .q2 .idle .idle).eqo.pos = .q2 ∧ (at_ .q3 .idle .idle).eqo.pos = .q3 ∧
    (at_ .q4 .idle .idle).eqo.pos = .q4 := by
  decide
/-- MismatchEntersFatalWithTheRecord, DifferingOutputsEndInFatal. -/
theorem witness_mismatch :
    let at_ (q : EqoPos) := (busy 3).setEqo { oa := 1, on := 0, matched := false, diff := 0, pos := q }
    (at_ .q4).mode = .busy ∧ (at_ .q4).opr.op = 3#2 ∧ (at_ .q4).eqo.pos = .q4 ∧ nextEvent (at_ .q4) ≠ .reset ∧
    (at_ .q1).mode = .busy ∧ (at_ .q1).eqo.pos = .q1 ∧ (at_ .q1).inputs = [] ∧ (at_ .q1).eqo.oa ≠ (at_ .q1).eqo.on := by
  decide
/-- OracleReportsTheLeastDifference, OracleCatchesAnOmittedUnwhitening: engine functions that agree, that differ, and a
schedule whose entry 0 is not zero. -/
theorem witness_oracle : (fun (_ : Sched) (b : V128) (_ : Nat) => b) sched1 3 0 ≠ (fun (_ : Sched) (_ : V128) (_ : Nat) => (0 : V128)) sched1 3 0 ∧
    chain sched1 block1 0 = chain sched1 block1 0 ∧ entry sched1 0 ≠ 0 := by decide

end Sys2Proof.Tests
end

section
/-!
PROOFS. One sequencer step of each unit: the rows of the three step tables as relations on the registers of one
unit, each tied to the machine's own step function.
-/

namespace Sys2Proof.Machine

/-! ## The rows of the step tables, on the registers of one unit -/

/-- SEE-N's vector registers once the round keys are loaded, with `x` in `V[0]` (R28). -/
def nativeRegs (k : Sched) (x : V128) : Vector V128 12 :=
  #v[x, entry k 1, entry k 2, entry k 3, entry k 4, entry k 5, entry k 6, entry k 7, entry k 8, entry k 9,
    combinedKey k, entry k 0]

/-- One row of KSE's step table but the respond step, as a relation on KSE's registers (R135). `kseStep_eq_next_iff`
ties it to the machine. -/
inductive Kse.Row (l : OperandLatch) (a : Kse) : Kse → Prop
  | k0 (h : a.pos = .k0) :
      Row l a { ek := a.ek.set 0 l.key, dk := a.dk.set 0 l.key, r := 1, pos := .k1 }
  | k1 (h : a.pos = .k1) (q : Fin 10) (hr : a.r.toNat = q.val + 1) :
      Row l a { a with ek := a.ek.set (q.val + 1) (keyStep a.ek[q.val] (roundConstant a.r)), pos := .k2 }
  | k2Middle (h : a.pos = .k2) (q : Fin 10) (hr : a.r.toNat = q.val) :
      Row l a { a with dk := a.dk.set q.val (invMixColumns a.ek[q.val]), pos := .k3 }
  | k2Last (h : a.pos = .k2) (hr : 9 < a.r.toNat) : Row l a { a with dk := a.dk.set 10 a.ek[10], pos := .k3 }
  | k3Next (h : a.pos = .k3) (hr : a.r ≠ 10) : Row l a { a with r := a.r + 1, pos := .k1 }
  | k3Last (h : a.pos = .k3) (hr : a.r = 10) : Row l a { a with pos := .k4 }

/-- One row of SEE-A's step table but the respond step, as a relation on SEE-A's registers (R155).
`seeAStep_eq_next_iff` ties it to the machine. -/
inductive SeeA.Row (l : OperandLatch) (a : SeeA) : SeeA → Prop
  | a0 (h : a.pos = .a0) : Row l a { a with s := l.block, i := l.n, pos := .a1 }
  | a1Done (h : a.pos = .a1) (hi : a.i = 0) : Row l a { a with pos := .a7 }
  | a1More (h : a.pos = .a1) (hi : a.i ≠ 0) : Row l a { a with pos := .a2 }
  | a2 (h : a.pos = .a2) : Row l a { a with s := xor128 a.s (entry l.rk 0), r := 1, pos := .a3 }
  | a3 (h : a.pos = .a3) (hr : a.r.toNat < 11) :
      Row l a { a with s := aesRound a.s (entry l.rk a.r.toNat), pos := .a4 }
  | a4Next (h : a.pos = .a4) (hr : a.r ≠ 9) : Row l a { a with r := a.r + 1, pos := .a3 }
  | a4Last (h : a.pos = .a4) (hr : a.r = 9) : Row l a { a with pos := .a5 }
  | a5 (h : a.pos = .a5) : Row l a { a with s := aesFinalRound a.s (entry l.rk 10), pos := .a6 }
  | a6 (h : a.pos = .a6) : Row l a { a with i := a.i - 1, pos := .a1 }

/-- One row of SEE-N's step table but the respond step, as a relation on SEE-N's registers (R175).
`seeNStep_eq_next_iff` ties it to the machine. -/
inductive SeeN.Row (l : OperandLatch) (a : SeeN) : SeeN → Prop
  | n0 (h : a.pos = .n0) : Row l a { a with v := nativeRegs l.rk a.v[0], pos := .n1 }
  | n1 (h : a.pos = .n1) : Row l a { a with c := l.n, pos := .n2 }
  | n2 (h : a.pos = .n2) : Row l a { a with v := a.v.set 0 (xor128 l.block a.v[11]), pos := .nt }
  | ntDone (h : a.pos = .nt) (hc : a.c = 0) : Row l a { a with pos := .n6 }
  | ntMore (h : a.pos = .nt) (hc : a.c ≠ 0) : Row l a { a with pos := .n3 0 }
  | n3 (j : Fin 9) (h : a.pos = .n3 j) :
      Row l a { a with v := a.v.set 0 (aesRound a.v[0] a.v[j.val + 1]), pos := afterRound j }
  | n4 (h : a.pos = .n4) : Row l a { a with v := a.v.set 0 (aesFinalRound a.v[0] a.v[10]), pos := .n5 }
  | n5 (h : a.pos = .n5) : Row l a { a with c := a.c - 1, pos := .nt }
  | n6 (h : a.pos = .n6) : Row l a { a with v := a.v.set 0 (xor128 a.v[0] a.v[11]), pos := .n7 }

/-- Where SEE-A's registers have a row, its step is that row (R30, R155). -/
theorem seeAStep_of_row {s : State} {b : SeeA} (h : SeeA.Row s.opr s.seeA b) : seeAStep s = .next (s.setSeeA b) := by
  cases h with
  | a0 h => simp [seeAStep, h, seeAA0]
  | a1Done h hi => simp [seeAStep, h, execSeeaLoop, hi, goA]
  | a1More h hi => simp [seeAStep, h, execSeeaLoop, hi, goA]
  | a2 h => simp [seeAStep, h, seeAA2, execXor128, writeReg, readSrc, readReg, memRead_eq_entry]
  | a3 h hr =>
    simp [seeAStep, h, seeAA3, entryOf_of_lt hr, execRound, writeReg, readSrc, readReg, memRead_eq_entry, goA]
  | a4Next h hr => simp only [seeAStep, h, execSeeaLoop, if_neg hr]
  | a4Last h hr => simp [seeAStep, h, execSeeaLoop, hr, goA]
  | a5 h => simp [seeAStep, h, seeAA5, execFinalround, writeReg, readSrc, readReg, memRead_eq_entry, goA]
  | a6 h => simp [seeAStep, h, execSeeaLoop, countDown_eq]

/-- A3 with a round index above 10 names an entry that does not exist (R57). -/
theorem seeAStep_of_no_entry {s : State} (h : s.seeA.pos = .a3) (hr : ¬ s.seeA.r.toNat < 11) :
    seeAStep s = .fault (.noSuchEntry s.seeA.r) := by
  simp [seeAStep, h, seeAA3, entryOf_eq_none (Nat.not_lt.1 hr)]

/-- At a step of its table, SEE-A has a row or names an entry that does not exist. -/
theorem SeeA.exists_row (l : OperandLatch) {a : SeeA} (hi : a.pos ≠ .idle) (h7 : a.pos ≠ .a7)
    (hr : a.pos = .a3 → a.r.toNat < 11) : ∃ b, SeeA.Row l a b := by
  cases h : a.pos with
  | idle => exact absurd h hi
  | a0 => exact ⟨_, .a0 h⟩
  | a1 => by_cases hz : a.i = 0; exacts [⟨_, .a1Done h hz⟩, ⟨_, .a1More h hz⟩]
  | a2 => exact ⟨_, .a2 h⟩
  | a3 => exact ⟨_, .a3 h (hr h)⟩
  | a4 => by_cases h9 : a.r = 9; exacts [⟨_, .a4Last h h9⟩, ⟨_, .a4Next h h9⟩]
  | a5 => exact ⟨_, .a5 h⟩
  | a6 => exact ⟨_, .a6 h⟩
  | a7 => exact absurd h h7

/-- Between acceptance and its respond step, a step of SEE-A is a row of its table, and it writes SEE-A's registers
only. -/
theorem seeAStep_eq_next_iff {s t : State} (hi : s.seeA.pos ≠ .idle) (h7 : s.seeA.pos ≠ .a7) :
    seeAStep s = .next t ↔ ∃ b, SeeA.Row s.opr s.seeA b ∧ t = s.setSeeA b := by
  constructor
  · intro h
    by_cases hr : s.seeA.pos = .a3 → s.seeA.r.toNat < 11
    · obtain ⟨b, hb⟩ := SeeA.exists_row s.opr hi h7 hr
      rw [seeAStep_of_row hb] at h
      cases h
      exact ⟨b, hb, rfl⟩
    · rw [Classical.not_imp] at hr
      rw [seeAStep_of_no_entry hr.1 hr.2] at h
      cases h
  · rintro ⟨b, hb, rfl⟩
    exact seeAStep_of_row hb

/-- Where SEE-N's registers have a row, its step is that row (R28, R175). -/
theorem seeNStep_of_row {s : State} {b : SeeN} (h : SeeN.Row s.opr s.seeN b) : seeNStep s = .next (s.setSeeN b) := by
  cases h with
  | n0 h =>
    simp [seeNStep, h, seeNN0, loadKeys, execXor128, writeReg, readSrc, readReg, memRead_eq_entry, goN,
      nativeRegs, combinedKey]
  | n1 h => simp [seeNStep, h, seeNN1]
  | n2 h => simp [seeNStep, h, seeNN2, execXor128, writeReg, readSrc, readReg, goN]
  | ntDone h hc => simp [seeNStep, h, execSeenLoop, hc, goN]
  | ntMore h hc => simp [seeNStep, h, execSeenLoop, hc, goN]
  | n3 j h => simp [seeNStep, h, seeNN3, execRound, writeReg, readSrc, readReg, goN]
  | n4 h => simp [seeNStep, h, seeNN4, execFinalround, writeReg, readSrc, readReg, goN]
  | n5 h => simp [seeNStep, h, execSeenLoop, countDown_eq]
  | n6 h => simp [seeNStep, h, seeNN6, execXor128, writeReg, readSrc, readReg, goN]

/-- At a step of its table, SEE-N has a row. -/
theorem SeeN.exists_row (l : OperandLatch) {a : SeeN} (hi : a.pos ≠ .idle) (h7 : a.pos ≠ .n7) :
    ∃ b, SeeN.Row l a b := by
  cases h : a.pos with
  | idle => exact absurd h hi
  | n0 => exact ⟨_, .n0 h⟩
  | n1 => exact ⟨_, .n1 h⟩
  | n2 => exact ⟨_, .n2 h⟩
  | nt => by_cases hz : a.c = 0; exacts [⟨_, .ntDone h hz⟩, ⟨_, .ntMore h hz⟩]
  | n3 j => exact ⟨_, .n3 j h⟩
  | n4 => exact ⟨_, .n4 h⟩
  | n5 => exact ⟨_, .n5 h⟩
  | n6 => exact ⟨_, .n6 h⟩
  | n7 => exact absurd h h7

/-- Between acceptance and its respond step, a step of SEE-N is a row of its table, and it writes SEE-N's registers
only. -/
theorem seeNStep_eq_next_iff {s t : State} (hi : s.seeN.pos ≠ .idle) (h7 : s.seeN.pos ≠ .n7) :
    seeNStep s = .next t ↔ ∃ b, SeeN.Row s.opr s.seeN b ∧ t = s.setSeeN b := by
  constructor
  · intro h
    obtain ⟨b, hb⟩ := SeeN.exists_row s.opr hi h7
    rw [seeNStep_of_row hb] at h
    cases h
    exact ⟨b, hb, rfl⟩
  · rintro ⟨b, hb, rfl⟩
    exact seeNStep_of_row hb

/-- Where KSE's registers have a row, its step is that row (R31, R135). -/
theorem kseStep_of_row {s : State} {b : Kse} (h : Kse.Row s.opr s.kse b) : kseStep s = .next (s.setKse b) := by
  cases h with
  | k0 h => simp [kseStep, h, execKseLoop, memWriteEk, memWriteDk]
  | k1 h q hr =>
    have hp := entryOf_of_lt (Nat.lt_succ_of_lt q.isLt)
    have hd := entryOf_of_lt (Nat.succ_lt_succ q.isLt)
    simp [kseStep, h, kseK1, hr, hp, hd, execKeystep, writeReg, memWriteEk, readSrc, readReg, goK]
  | k2Middle h q hr =>
    have hq : q.val ≤ 9 := Nat.le_of_lt_succ q.isLt
    simp [kseStep, h, kseK2, hr, hq, execInvmixcolumns, writeReg, memWriteDk, readSrc, readReg, goK]
  | k2Last h hr => simp [kseStep, h, kseK2, Nat.not_le.2 hr, memWriteDk, readReg, goK]
  | k3Next h hr => simp only [kseStep, h, execKseLoop, if_neg hr]
  | k3Last h hr => simp [kseStep, h, execKseLoop, hr, goK]

/-- K1 with a round index outside 1..10 names an entry that does not exist (R57). -/
theorem kseStep_of_no_entry {s : State} (h : s.kse.pos = .k1) (hr : ¬ (1 ≤ s.kse.r.toNat ∧ s.kse.r.toNat ≤ 10)) :
    kseStep s = .fault (.noSuchEntry s.kse.r) := by
  simp only [kseStep, h, kseK1]
  split
  · rfl
  · next q hq =>
    rw [entryOf_eq_none (show 11 ≤ q + 1 by omega)]
    split <;> simp_all

/-- At a step of its table, KSE has a row or names an entry that does not exist. -/
theorem Kse.exists_row (l : OperandLatch) {a : Kse} (hi : a.pos ≠ .idle) (h4 : a.pos ≠ .k4)
    (hr : a.pos = .k1 → 1 ≤ a.r.toNat ∧ a.r.toNat ≤ 10) : ∃ b, Kse.Row l a b := by
  cases h : a.pos with
  | idle => exact absurd h hi
  | k0 => exact ⟨_, .k0 h⟩
  | k1 =>
    obtain ⟨h1, h10⟩ := hr h
    exact ⟨_, .k1 h ⟨a.r.toNat - 1, by omega⟩ (by simp only; omega)⟩
  | k2 =>
    by_cases h9 : a.r.toNat ≤ 9
    · exact ⟨_, .k2Middle h ⟨a.r.toNat, by omega⟩ rfl⟩
    · exact ⟨_, .k2Last h (by omega)⟩
  | k3 => by_cases h10 : a.r = 10; exacts [⟨_, .k3Last h h10⟩, ⟨_, .k3Next h h10⟩]
  | k4 => exact absurd h h4

/-- Between acceptance and its respond step, a step of KSE is a row of its table, and it writes KSE's registers
only. -/
theorem kseStep_eq_next_iff {s t : State} (hi : s.kse.pos ≠ .idle) (h4 : s.kse.pos ≠ .k4) :
    kseStep s = .next t ↔ ∃ b, Kse.Row s.opr s.kse b ∧ t = s.setKse b := by
  constructor
  · intro h
    by_cases hr : s.kse.pos = .k1 → 1 ≤ s.kse.r.toNat ∧ s.kse.r.toNat ≤ 10
    · obtain ⟨b, hb⟩ := Kse.exists_row s.opr hi h4 hr
      rw [kseStep_of_row hb] at h
      cases h
      exact ⟨b, hb, rfl⟩
    · rw [Classical.not_imp] at hr
      rw [kseStep_of_no_entry hr.1 hr.2] at h
      cases h
  · rintro ⟨b, hb, rfl⟩
    exact kseStep_of_row hb

end Sys2Proof.Machine
end

section
/-!
PROOFS. From acceptance to the respond step: how many rows each sequencer takes, and what its registers hold then.
-/

namespace Sys2Proof.Machine

/-! ## Counted runs of a relation -/

/-- `RunsIn R k a b`: exactly `k` moves of `R` lead from `a` to `b`. -/
inductive RunsIn {σ : Type} (R : σ → σ → Prop) : Nat → σ → σ → Prop
  | refl (a : σ) : RunsIn R 0 a a
  | cons {k : Nat} {a b c : σ} (h : R a b) (t : RunsIn R k b c) : RunsIn R (k + 1) a c

theorem RunsIn.single {σ : Type} {R : σ → σ → Prop} {a b : σ} (h : R a b) : RunsIn R 1 a b := .cons h (.refl b)

theorem RunsIn.trans {σ : Type} {R : σ → σ → Prop} {j k : Nat} {a b c : σ} (h : RunsIn R j a b)
    (t : RunsIn R k b c) : RunsIn R (j + k) a c := by
  induction h with
  | refl a => rwa [Nat.zero_add]
  | cons h _ ih => rw [Nat.add_right_comm]; exact .cons h (ih t)

/-- The same run under another name of its length. -/
theorem RunsIn.of_eq {σ : Type} {R : σ → σ → Prop} {j k : Nat} {a b : σ} (h : RunsIn R j a b) (e : j = k) :
    RunsIn R k a b := e ▸ h

/-- A run of a relation that one sequencer step in BUSY follows is a run of the machine. -/
theorem runTicks_of_runsIn {σ : Type} {R : σ → σ → Prop} (g : σ → State)
    (hg : ∀ a b, R a b → (g a).mode = .busy ∧ tick (g a) = .next (g b)) {k : Nat} {a b : σ}
    (h : RunsIn R k a b) : runTicks k (g a) = .next (g b) := by
  induction h with
  | refl a => rfl
  | cons h _ ih =>
    obtain ⟨hm, ht⟩ := hg _ _ h
    simp [runTicks, hm, ht, ih]

/-! ## SEE-A from acceptance to its respond step (R155, R157) -/

/-- SEE-A at A3 of round `j + 1` of an iteration on the block `c`. -/
def SeeA.atRound (k : Sched) (c : V128) (i j : Nat) : SeeA :=
  { s := encRounds k c j, i := i, r := BitVec.ofNat 4 (j + 1), pos := .a3 }

/-- A3: round `j + 1` takes entry `j + 1`. -/
theorem SeeA.row_atRound (l : OperandLatch) (c : V128) (i : Nat) {j : Nat} (hj : j < 9) :
    SeeA.Row l (SeeA.atRound l.rk c i j)
      { s := encRounds l.rk c (j + 1), i := i, r := BitVec.ofNat 4 (j + 1), pos := .a4 } := by
  have hr : (BitVec.ofNat 4 (j + 1)).toNat = j + 1 := by simp; omega
  have h := SeeA.Row.a3 (l := l) (a := SeeA.atRound l.rk c i j) rfl (by rw [SeeA.atRound, hr]; omega)
  simp only [SeeA.atRound, hr] at h
  exact h

theorem SeeA.runs_rounds (l : OperandLatch) (c : V128) (i : Nat) {j : Nat} (hj : j ≤ 8) :
    RunsIn (SeeA.Row l) (2 * j) (SeeA.atRound l.rk c i 0) (SeeA.atRound l.rk c i j) := by
  induction j with
  | zero => exact .refl _
  | succ j ih =>
    have h9 : BitVec.ofNat 4 (j + 1) ≠ 9 := by
      intro h
      have := congrArg BitVec.toNat h
      simp at this
      omega
    have hnext := SeeA.Row.a4Next (l := l)
      (a := { s := encRounds l.rk c (j + 1), i := i, r := BitVec.ofNat 4 (j + 1), pos := .a4 }) rfl h9
    have hr : BitVec.ofNat 4 (j + 1) + 1 = BitVec.ofNat 4 (j + 1 + 1) := (BitVec.ofNat_add ..).symm
    rw [hr] at hnext
    exact ((ih (by omega)).trans (.cons (SeeA.row_atRound l c i (by omega)) (.single hnext)))

/-- One iteration takes 22 steps and applies ENC (R152, R155). -/
theorem SeeA.runs_iteration (l : OperandLatch) (c : V128) (i : Nat) (r : BitVec 4) :
    RunsIn (SeeA.Row l) 22 { s := c, i := i + 1, r := r, pos := .a1 }
      { s := enc l.rk c, i := i, r := 9, pos := .a1 } := by
  have enter : RunsIn (SeeA.Row l) 2 { s := c, i := i + 1, r := r, pos := .a1 } (SeeA.atRound l.rk c (i + 1) 0) :=
    .cons (.a1More rfl (Nat.succ_ne_zero i)) (.single (.a2 rfl))
  have leave : RunsIn (SeeA.Row l) 4 (SeeA.atRound l.rk c (i + 1) 8) { s := enc l.rk c, i := i, r := 9, pos := .a1 } :=
    .cons (SeeA.row_atRound l c (i + 1) (by omega)) (.cons (.a4Last rfl rfl) (.cons (.a5 rfl) (.single (.a6 rfl))))
  exact (enter.trans (SeeA.runs_rounds l c (i + 1) (Nat.le_refl 8))).trans leave

theorem SeeA.runs_loop (l : OperandLatch) (b : V128) (m j : Nat) (r : BitVec 4) :
    RunsIn (SeeA.Row l) (22 * m) { s := chain l.rk b j, i := m, r := r, pos := .a1 }
      { s := chain l.rk b (j + m), i := 0, r := if m = 0 then r else 9, pos := .a1 } := by
  induction m generalizing j r with
  | zero => exact .refl _
  | succ m ih =>
    have h := (SeeA.runs_iteration l (chain l.rk b j) m r).trans (ih (j + 1) 9)
    rw [ite_self, Nat.add_right_comm j 1 m] at h
    exact h.of_eq (by omega)

/-- From A0 SEE-A arrives at A7 after `2 + 22n` steps, with `CHAIN(RK, OPR.BLOCK, n)` in `A.S`. -/
theorem SeeA.runs_to_respond (l : OperandLatch) (a : SeeA) :
    RunsIn (SeeA.Row l) (2 + 22 * l.n) { a with pos := .a0 }
      { seeADone a l.n (chain l.rk l.block l.n) with pos := .a7 } := by
  have h := SeeA.runs_loop l l.block l.n 0 a.r
  rw [Nat.zero_add] at h
  exact (RunsIn.cons (.a0 rfl) (h.trans (.single (.a1Done rfl rfl)))).of_eq (by omega)

/-! ## SEE-N from acceptance to its respond step (R175, R177) -/

/-- SEE-N with its round keys loaded, `x` in `V[0]` and `c` in `N.C`. -/
def SeeN.loaded (k : Sched) (x : V128) (c : Nat) (p : SeeNPos) : SeeN := { v := nativeRegs k x, c := c, pos := p }

theorem nativeRegs_set (k : Sched) (x y : V128) : (nativeRegs k x).set 0 y = nativeRegs k y := rfl

theorem nativeRegs_roundKey (k : Sched) (x : V128) (j : Fin 9) :
    (nativeRegs k x)[j.val + 1] = entry k (j.val + 1) := by
  fin_cases j <;> rfl

/-- N3.(j+1): round `j + 1` takes entry `j + 1`. -/
theorem SeeN.row_round (l : OperandLatch) (c : V128) (m : Nat) (j : Fin 9) :
    SeeN.Row l (SeeN.loaded l.rk (encRounds l.rk c j.val) m (.n3 j))
      (SeeN.loaded l.rk (encRounds l.rk c (j.val + 1)) m (afterRound j)) := by
  have h := SeeN.Row.n3 (l := l) (a := SeeN.loaded l.rk (encRounds l.rk c j.val) m (.n3 j)) j rfl
  rwa [show (SeeN.loaded l.rk (encRounds l.rk c j.val) m (.n3 j)).v[j.val + 1] = entry l.rk (j.val + 1) from
    nativeRegs_roundKey _ _ j] at h

theorem SeeN.runs_rounds (l : OperandLatch) (c : V128) (m : Nat) {j : Nat} (hj : j < 9) :
    RunsIn (SeeN.Row l) j (SeeN.loaded l.rk (encRounds l.rk c 0) m (.n3 0))
      (SeeN.loaded l.rk (encRounds l.rk c j) m (.n3 ⟨j, hj⟩)) := by
  induction j with
  | zero => exact .refl _
  | succ j ih =>
    have h := SeeN.row_round l c m ⟨j, by omega⟩
    rw [afterRound, dif_pos (show j < 8 by omega)] at h
    exact (ih (by omega)).trans (.single h)

/-- The combined key closes an iteration and opens the next one: FINALROUND under `V[10]` gives ENC with the whitening
of the next iteration (R170). -/
theorem aesFinalRound_combinedKey (k : Sched) (c : V128) :
    aesFinalRound (encRounds k c 9) (combinedKey k) = encRounds k (enc k c) 0 :=
  (xor128_assoc _ _ _).symm

/-- One pass of the counted branch takes 12 steps and applies ENC to the whitened block (R175). -/
theorem SeeN.runs_pass (l : OperandLatch) (c : V128) (m : Nat) :
    RunsIn (SeeN.Row l) 12 (SeeN.loaded l.rk (encRounds l.rk c 0) (m + 1) .nt)
      (SeeN.loaded l.rk (encRounds l.rk (enc l.rk c) 0) m .nt) := by
  have enter : SeeN.Row l (SeeN.loaded l.rk (encRounds l.rk c 0) (m + 1) .nt)
      (SeeN.loaded l.rk (encRounds l.rk c 0) (m + 1) (.n3 0)) := .ntMore rfl (Nat.succ_ne_zero m)
  have final := SeeN.Row.n4 (l := l) (a := SeeN.loaded l.rk (encRounds l.rk c 9) (m + 1) .n4) rfl
  rw [show aesFinalRound (SeeN.loaded l.rk (encRounds l.rk c 9) (m + 1) .n4).v[0]
    (SeeN.loaded l.rk (encRounds l.rk c 9) (m + 1) .n4).v[10] = _ from aesFinalRound_combinedKey l.rk c] at final
  exact (RunsIn.cons enter (SeeN.runs_rounds l c (m + 1) (show 8 < 9 by omega))).trans
    (.cons (SeeN.row_round l c (m + 1) 8) (.cons final (.single (.n5 rfl))))

theorem SeeN.runs_loop (l : OperandLatch) (b : V128) (m j : Nat) :
    RunsIn (SeeN.Row l) (12 * m) (SeeN.loaded l.rk (encRounds l.rk (chain l.rk b j) 0) m .nt)
      (SeeN.loaded l.rk (encRounds l.rk (chain l.rk b (j + m)) 0) 0 .nt) := by
  induction m generalizing j with
  | zero => exact .refl _
  | succ m ih =>
    have h := (SeeN.runs_pass l (chain l.rk b j) m).trans (ih (j + 1))
    rw [Nat.add_right_comm j 1 m] at h
    exact h.of_eq (by omega)

/-- From N0 SEE-N arrives at N7 after `5 + 12n` steps, with `CHAIN(RK, OPR.BLOCK, n)` in `V[0]`. -/
theorem SeeN.runs_to_respond (l : OperandLatch) (a : SeeN) :
    RunsIn (SeeN.Row l) (5 + 12 * l.n) { a with pos := .n0 }
      { seeNDone l.rk (chain l.rk l.block l.n) with pos := .n7 } := by
  have load : RunsIn (SeeN.Row l) 3 { a with pos := .n0 }
      (SeeN.loaded l.rk (encRounds l.rk (chain l.rk l.block 0) 0) l.n .nt) :=
    .cons (.n0 rfl) (.cons (.n1 rfl) (.single (.n2 rfl)))
  have loop := SeeN.runs_loop l l.block l.n 0
  rw [Nat.zero_add] at loop
  have unwhiten := SeeN.Row.n6 (l := l)
    (a := SeeN.loaded l.rk (encRounds l.rk (chain l.rk l.block l.n) 0) 0 .n6) rfl
  rw [show xor128 (SeeN.loaded l.rk (encRounds l.rk (chain l.rk l.block l.n) 0) 0 .n6).v[0]
    (SeeN.loaded l.rk (encRounds l.rk (chain l.rk l.block l.n) 0) 0 .n6).v[11] = _ from
    xor128_xor128_cancel _ (entry l.rk 0)] at unwhiten
  exact ((load.trans loop).trans (.cons (.ntDone rfl rfl) (.single unwhiten))).of_eq (by omega)

/-! ## KSE from acceptance to its respond step (R135, R136) -/

/-- A result file whose entries below `m` have been computed and whose others are as they were. -/
def filled (f : Nat → V128) (k : Sched) (m : Nat) : Sched := Vector.ofFn fun j => if j.val < m then f j.val else k[j]

theorem filled_getElem (f : Nat → V128) (k : Sched) {m j : Nat} (hj : j < 11) (hm : j < m) :
    (filled f k m)[j] = f j := by simp [filled, hm]

theorem filled_zero (f : Nat → V128) (k : Sched) : filled f k 0 = k := by
  ext j hj : 1; simp [filled]

theorem filled_all (f : Nat → V128) (k : Sched) : filled f k 11 = schedOf f := rfl

/-- Writing entry `m` fills one entry more. -/
theorem filled_set (f : Nat → V128) (k : Sched) {m : Nat} (hm : m < 11) :
    (filled f k m).set m (f m) = filled f k (m + 1) := by
  ext j hj : 1
  rw [Vector.getElem_set]
  by_cases h : m = j
  · subst h
    simp [filled]
  · rcases Nat.lt_or_ge j m with hlt | hge
    · simp [filled, h, hlt, hlt.le]
    · simp [filled, h, Nat.not_lt.2 hge, show ¬ j ≤ m by omega]

/-- KSE with both files filled below `e` and `d`. -/
def Kse.filling (key : V128) (a : Kse) (e d r : Nat) (p : KsePos) : Kse :=
  { ek := filled (ekOf key) a.ek e, dk := filled (dkOf key) a.dk d, r := BitVec.ofNat 4 r, pos := p }

/-- `RCON(r)` is defined where KSE issues KEYSTEP, so K1 computes the next entry (R112, R132). -/
theorem keyStep_ekOf (key : V128) {q : Nat} (hq : q < 10) :
    keyStep (ekOf key q) (roundConstant (BitVec.ofNat 4 (q + 1))) = ekOf key (q + 1) := by
  have hr : (BitVec.ofNat 4 (q + 1)).toNat = q + 1 := by simp; omega
  obtain ⟨rc, hrc⟩ := Option.isSome_iff_exists.1 ((rcon_isSome_iff (q + 1)).2 ⟨by omega, by omega⟩)
  rw [roundConstant_of_rcon (hr.symm ▸ hrc), ekOf, hrc]

theorem Kse.row_k0 (l : OperandLatch) (a : Kse) :
    Kse.Row l { a with pos := .k0 } (Kse.filling l.key a 1 1 1 .k1) := by
  have he := filled_set (ekOf l.key) a.ek (m := 0) (by omega)
  have hd := filled_set (dkOf l.key) a.dk (m := 0) (by omega)
  rw [filled_zero] at he hd
  rw [Kse.filling, ← he, ← hd]
  exact .k0 rfl

/-- K1 at index `q + 1` computes `ek[q + 1]` from `ek[q]`. -/
theorem Kse.row_k1 (l : OperandLatch) (a : Kse) {q : Nat} (hq : q < 10) :
    Kse.Row l (Kse.filling l.key a (q + 1) (q + 1) (q + 1) .k1) (Kse.filling l.key a (q + 2) (q + 1) (q + 1) .k2) := by
  have h := Kse.Row.k1 (l := l) (a := Kse.filling l.key a (q + 1) (q + 1) (q + 1) .k1) rfl ⟨q, hq⟩
    (by simp [Kse.filling]; omega)
  simp only [Kse.filling, filled_getElem (ekOf l.key) a.ek (show q < 11 by omega) (Nat.lt_succ_self q),
    keyStep_ekOf l.key hq, filled_set (ekOf l.key) a.ek (show q + 1 < 11 by omega)] at h
  exact h

/-- K2 at index `q + 1` computes `dk[q + 1]` from `ek[q + 1]` (R133). -/
theorem Kse.row_k2 (l : OperandLatch) (a : Kse) {q : Nat} (hq : q < 10) :
    Kse.Row l (Kse.filling l.key a (q + 2) (q + 1) (q + 1) .k2) (Kse.filling l.key a (q + 2) (q + 2) (q + 1) .k3) := by
  have hr : (BitVec.ofNat 4 (q + 1)).toNat = q + 1 := by simp; omega
  have hek := filled_getElem (ekOf l.key) a.ek (m := q + 2) (show q + 1 < 11 by omega) (Nat.lt_succ_self _)
  have hset := filled_set (dkOf l.key) a.dk (m := q + 1) (by omega)
  by_cases h9 : q < 9
  · have hd : dkOf l.key (q + 1) = invMixColumns (ekOf l.key (q + 1)) := by simp [dkOf]; omega
    have h := Kse.Row.k2Middle (l := l) (a := Kse.filling l.key a (q + 2) (q + 1) (q + 1) .k2) rfl
      ⟨q + 1, by omega⟩ hr
    simp only [Kse.filling, hek, ← hd, hset] at h
    exact h
  · obtain rfl : q = 9 := by omega
    have h := Kse.Row.k2Last (l := l) (a := Kse.filling l.key a 11 10 10 .k2) rfl (by simp [Kse.filling])
    have hd : ekOf l.key 10 = dkOf l.key 10 := by simp [dkOf]
    simp only [Kse.filling, hek, hd, hset] at h
    exact h

theorem Kse.runs_loop (l : OperandLatch) (a : Kse) {m : Nat} (hm : m ≤ 9) :
    RunsIn (Kse.Row l) (3 * m) (Kse.filling l.key a 1 1 1 .k1)
      (Kse.filling l.key a (m + 1) (m + 1) (m + 1) .k1) := by
  induction m with
  | zero => exact .refl _
  | succ q ih =>
    have h10 : BitVec.ofNat 4 (q + 1) ≠ 10 := by
      intro h
      have := congrArg BitVec.toNat h
      simp at this
      omega
    have hnext := Kse.Row.k3Next (l := l) (a := Kse.filling l.key a (q + 2) (q + 2) (q + 1) .k3) rfl h10
    have hr : BitVec.ofNat 4 (q + 1) + 1 = BitVec.ofNat 4 (q + 1 + 1) := (BitVec.ofNat_add ..).symm
    simp only [Kse.filling, hr] at hnext
    exact (ih (by omega)).trans
      (.cons (Kse.row_k1 l a (by omega)) (.cons (Kse.row_k2 l a (by omega)) (.single hnext)))

/-- From K0 KSE arrives at K4 after 31 steps, with both schedules of the key in its files (R131). -/
theorem Kse.runs_to_respond (l : OperandLatch) (a : Kse) :
    RunsIn (Kse.Row l) 31 { a with pos := .k0 }
      { ek := expandEk l.key, dk := expandDk l.key, r := 10, pos := .k4 } := by
  rw [expandEk, expandDk, ← filled_all _ a.ek, ← filled_all _ a.dk]
  exact (RunsIn.cons (Kse.row_k0 l a) (Kse.runs_loop l a (Nat.le_refl 9))).trans
    (.cons (Kse.row_k1 l a (by omega)) (.cons (Kse.row_k2 l a (by omega)) (.single (.k3Last rfl rfl))))

end Sys2Proof.Machine
end

section
/-!
PROOFS. The four operations as runs of the machine from the accept event to the respond event, CHECK for every order
of the two engines.
-/

namespace Sys2Proof.Machine

/-! ## The operations whole, from any state in READY -/

@[simp] theorem opOfCode_codeOfOp (o : Op) : opOfCode (codeOfOp o) = o := by cases o <;> rfl

theorem tick_of_expand {s : State} (h : opOfCode s.opr.op = .expand) : tick s = kseStep s := by simp [tick, h]
theorem tick_of_chainA {s : State} (h : opOfCode s.opr.op = .chainA) : tick s = seeAStep s := by simp [tick, h]
theorem tick_of_chainN {s : State} (h : opOfCode s.opr.op = .chainN) : tick s = seeNStep s := by simp [tick, h]
theorem tick_of_check {s : State} (h : opOfCode s.opr.op = .check) : tick s = eqoStep s := by simp [tick, h]

/-- One more sequencer step at the end of a run. -/
theorem runTicks_succ_of_next {k : Nat} {s t u : State} (h : runTicks k s = .next t) (hm : t.mode = .busy)
    (hu : tick t = .next u) : runTicks (k + 1) s = .next u := by
  rw [runTicks_add, h]
  simp [runTicks, hm, hu]

/-- EXPAND at its end (R131, R135). -/
def expandDone (key : V128) (s : State) : State :=
  respondExpand ((acceptExpand key s).setKse { ek := expandEk key, dk := expandDk key, r := 10, pos := .k4 })

/-- CHAIN_A at its end (R151, R155). -/
def chainADone (k : Sched) (b : V128) (n : Nat) (s : State) : State :=
  respondChainA ((acceptChainA k b n s).setSeeA { seeADone s.seeA n (chain k b n) with pos := .a7 })

/-- CHAIN_N at its end (R171, R175). -/
def chainNDone (k : Sched) (b : V128) (n : Nat) (s : State) : State :=
  respondChainN ((acceptChainN k b n s).setSeeN { seeNDone k (chain k b n) with pos := .n7 })

theorem runTicks_acceptExpand (key : V128) (s : State) :
    runTicks expandTicks (acceptExpand key s) = .next (expandDone key s) := by
  have h := runTicks_of_runsIn (fun x => (acceptExpand key s).setKse x)
    (fun a b h => ⟨rfl, (tick_of_expand rfl).trans (kseStep_of_row h)⟩)
    (Kse.runs_to_respond (acceptExpand key s).opr s.kse)
  exact runTicks_succ_of_next h rfl rfl

theorem runTicks_acceptChainA (k : Sched) (b : V128) (n : Nat) (s : State) :
    runTicks (chainATicks n) (acceptChainA k b n s) = .next (chainADone k b n s) := by
  have h := runTicks_of_runsIn (fun x => (acceptChainA k b n s).setSeeA x)
    (fun x y h => ⟨rfl, (tick_of_chainA rfl).trans (seeAStep_of_row h)⟩)
    (SeeA.runs_to_respond (acceptChainA k b n s).opr s.seeA)
  rw [show chainATicks n = 2 + 22 * n + 1 by simp only [chainATicks]; omega]
  exact runTicks_succ_of_next h rfl rfl

theorem runTicks_acceptChainN (k : Sched) (b : V128) (n : Nat) (s : State) :
    runTicks (chainNTicks n) (acceptChainN k b n s) = .next (chainNDone k b n s) := by
  have h := runTicks_of_runsIn (fun x => (acceptChainN k b n s).setSeeN x)
    (fun x y h => ⟨rfl, (tick_of_chainN rfl).trans (seeNStep_of_row h)⟩)
    (SeeN.runs_to_respond (acceptChainN k b n s).opr s.seeN)
  rw [show chainNTicks n = 5 + 12 * n + 1 by simp only [chainNTicks]; omega]
  exact runTicks_succ_of_next h rfl rfl

/-! ## CHECK: both engines in Q0, in any order (R195, R196) -/

/-- A row joins two steps at which SEE-A runs. -/
theorem SeeA.Row.running {l : OperandLatch} {a b : SeeA} (h : SeeA.Row l a b) :
    a.pos ≠ .idle ∧ a.pos ≠ .a7 ∧ b.pos ≠ .idle := by
  cases h <;> simp_all

/-- A row joins two steps at which SEE-N runs. -/
theorem SeeN.Row.running {l : OperandLatch} {a b : SeeN} (h : SeeN.Row l a b) :
    a.pos ≠ .idle ∧ a.pos ≠ .n7 ∧ b.pos ≠ .idle := by
  cases h with
  | n3 j h => simp only [h, afterRound]; split <;> simp
  | _ => simp_all

/-- A step of SEE-A inside Q0, on its registers and the output register `Q.OA` it is copied to. -/
inductive SeeA.CheckRow (l : OperandLatch) : SeeA × V128 → SeeA × V128 → Prop
  | row {a b : SeeA} (o : V128) (h : SeeA.Row l a b) : CheckRow l (a, o) (b, o)
  | copy {a : SeeA} (o : V128) (h : a.pos = .a7) : CheckRow l (a, o) ({ a with pos := .idle }, a.s)

/-- A step of SEE-N inside Q0, on its registers and the output register `Q.ON` it is copied to. -/
inductive SeeN.CheckRow (l : OperandLatch) : SeeN × V128 → SeeN × V128 → Prop
  | row {a b : SeeN} (o : V128) (h : SeeN.Row l a b) : CheckRow l (a, o) (b, o)
  | copy {a : SeeN} (o : V128) (h : a.pos = .n7) : CheckRow l (a, o) ({ a with pos := .idle }, a.v[0])

theorem SeeA.CheckRow.pos_ne_idle {l : OperandLatch} {x y : SeeA × V128} (h : SeeA.CheckRow l x y) :
    x.1.pos ≠ .idle := by
  cases h with
  | row o h => exact h.running.1
  | copy o h => simp [h]

theorem SeeN.CheckRow.pos_ne_idle {l : OperandLatch} {x y : SeeN × V128} (h : SeeN.CheckRow l x y) :
    x.1.pos ≠ .idle := by
  cases h with
  | row o h => exact h.running.1
  | copy o h => simp [h]

theorem RunsIn.map {σ τ : Type} {R : σ → σ → Prop} {Q : τ → τ → Prop} (f : σ → τ)
    (hf : ∀ a b, R a b → Q (f a) (f b)) {k : Nat} {a b : σ} (h : RunsIn R k a b) : RunsIn Q k (f a) (f b) := by
  induction h with
  | refl a => exact .refl _
  | cons h _ ih => exact .cons (hf _ _ h) ih

theorem SeeA.runs_check (l : OperandLatch) (a : SeeA) (o : V128) :
    RunsIn (SeeA.CheckRow l) (3 + 22 * l.n) ({ a with pos := .a0 }, o)
      (seeADone a l.n (chain l.rk l.block l.n), chain l.rk l.block l.n) :=
  (((SeeA.runs_to_respond l a).map (·, o) fun _ _ h => .row o h).trans (.single (.copy o rfl))).of_eq (by omega)

theorem SeeN.runs_check (l : OperandLatch) (a : SeeN) (o : V128) :
    RunsIn (SeeN.CheckRow l) (6 + 12 * l.n) ({ a with pos := .n0 }, o)
      (seeNDone l.rk (chain l.rk l.block l.n), chain l.rk l.block l.n) :=
  (((SeeN.runs_to_respond l a).map (·, o) fun _ _ h => .row o h).trans (.single (.copy o rfl))).of_eq (by omega)

/-- CHECK in Q0, or at Q1 once both engines have ended: the turns to come, and each engine with its output register. -/
def State.inQ0 (s : State) (turns : List Engine) (x : SeeA × V128) (y : SeeN × V128) : State :=
  (((s.setTurns turns).setSeeA x.1).setSeeN y.1).setEqo
    { s.eqo with oa := x.2, on := y.2, pos := if x.1.pos = .idle ∧ y.1.pos = .idle then .q1 else .q0 }

/-- The step label is Q0 while SEE-A runs. -/
theorem State.inQ0_of_seeA (s : State) (turns : List Engine) {x : SeeA × V128} (y : SeeN × V128)
    (hx : x.1.pos ≠ .idle) : s.inQ0 turns x y =
      (((s.setTurns turns).setSeeA x.1).setSeeN y.1).setEqo { s.eqo with oa := x.2, on := y.2, pos := .q0 } := by
  simp [State.inQ0, hx]

/-- The step label is Q0 while SEE-N runs. -/
theorem State.inQ0_of_seeN (s : State) (turns : List Engine) (x : SeeA × V128) {y : SeeN × V128}
    (hy : y.1.pos ≠ .idle) : s.inQ0 turns x y =
      (((s.setTurns turns).setSeeA x.1).setSeeN y.1).setEqo { s.eqo with oa := x.2, on := y.2, pos := .q0 } := by
  simp [State.inQ0, hy]

/-- In Q0 a sequencer step is one of the engine whose turn it is, and the turn is used up (R196). -/
theorem tick_q0_seeA {s : State} (hop : opOfCode s.opr.op = .check) (hq : s.eqo.pos = .q0)
    (he : engineToStep s = .seeA) : tick s = seeAInCheck (s.setTurns s.turns.tail) := by
  simp only [tick_of_check hop, eqoStep, hq, eqoQ0, he]

theorem tick_q0_seeN {s : State} (hop : opOfCode s.opr.op = .check) (hq : s.eqo.pos = .q0)
    (he : engineToStep s = .seeN) : tick s = seeNInCheck (s.setTurns s.turns.tail) := by
  simp only [tick_of_check hop, eqoStep, hq, eqoQ0, he]

/-- Before A7 a step of SEE-A in Q0 is one by its own table. -/
theorem seeAInCheck_of_ne {s : State} (h : s.seeA.pos ≠ .a7) : seeAInCheck s = seeAStep s := by
  unfold seeAInCheck
  split
  · exact absurd ‹_› h
  · rfl

/-- Before N7 a step of SEE-N in Q0 is one by its own table. -/
theorem seeNInCheck_of_ne {s : State} (h : s.seeN.pos ≠ .n7) : seeNInCheck s = seeNStep s := by
  unfold seeNInCheck
  split
  · exact absurd ‹_› h
  · rfl

theorem tick_inQ0_seeA {s : State} (hop : opOfCode s.opr.op = .check) {turns : List Engine} {x x' : SeeA × V128}
    {y : SeeN × V128} (he : engineToStep (s.inQ0 turns x y) = .seeA) (h : SeeA.CheckRow s.opr x x') :
    tick (s.inQ0 turns x y) = .next (s.inQ0 turns.tail x' y) := by
  have hx := h.pos_ne_idle
  rw [tick_q0_seeA (s := s.inQ0 turns x y) hop (by rw [State.inQ0_of_seeA _ _ _ hx]; rfl) he,
    State.inQ0_of_seeA _ _ _ hx]
  cases h with
  | row o h =>
    obtain ⟨_, h7, hb⟩ := h.running
    rw [State.inQ0_of_seeA _ _ _ hb]
    exact (seeAInCheck_of_ne h7).trans (seeAStep_of_row h)
  | copy o h =>
    by_cases hy : y.1.pos = .idle
    · simp [seeAInCheck, h, State.inQ0, leaveQ0, goA, goQ, hy]
      rfl
    · simp [seeAInCheck, h, State.inQ0, leaveQ0, goA, hy]
      rfl

theorem tick_inQ0_seeN {s : State} (hop : opOfCode s.opr.op = .check) {turns : List Engine} {x : SeeA × V128}
    {y y' : SeeN × V128} (he : engineToStep (s.inQ0 turns x y) = .seeN) (h : SeeN.CheckRow s.opr y y') :
    tick (s.inQ0 turns x y) = .next (s.inQ0 turns.tail x y') := by
  have hy := h.pos_ne_idle
  rw [tick_q0_seeN (s := s.inQ0 turns x y) hop (by rw [State.inQ0_of_seeN _ _ _ hy]; rfl) he,
    State.inQ0_of_seeN _ _ _ hy]
  cases h with
  | row o h =>
    obtain ⟨_, h7, hb⟩ := h.running
    rw [State.inQ0_of_seeN _ _ _ hb]
    exact (seeNInCheck_of_ne h7).trans (seeNStep_of_row h)
  | copy o h =>
    by_cases hx : x.1.pos = .idle
    · simp [seeNInCheck, h, State.inQ0, leaveQ0, goN, goQ, readReg, hx]
      rfl
    · simp [seeNInCheck, h, State.inQ0, leaveQ0, goN, readReg, hx]
      rfl

/-- An engine that has ended is not the one to step, unless both have. -/
theorem seeA_running_of_engineToStep {s : State} (h : engineToStep s = .seeA) : s.seeA.pos ≠ .idle := by
  intro hi
  simp [engineToStep, hi] at h

theorem seeN_running_of_engineToStep {s : State} (h : engineToStep s = .seeN) (hs : s.seeA.pos ≠ .idle) :
    s.seeN.pos ≠ .idle := by
  intro hi
  simp [engineToStep, hs, hi] at h

/-- An engine that is at a step has steps left to its end. -/
theorem RunsIn.cons_of_ne {σ : Type} {R : σ → σ → Prop} {k : Nat} {a c : σ} (h : RunsIn R k a c)
    (hne : a ≠ c) :
    ∃ j b, k = j + 1 ∧ R a b ∧ RunsIn R j b c := by
  cases h with
  | refl => exact absurd rfl hne
  | cons h t => exact ⟨_, _, rfl, h, t⟩

/-- Where the two engines run to their ends in `i` and `j` steps alone, Q0 takes `i + j` steps for both, whatever the
turns, and every engine ends as it does alone (R64, R196). -/
theorem runTicks_inQ0 {s : State} (hm : s.mode = .busy) (hop : opOfCode s.opr.op = .check) {i j : Nat}
    {x x' : SeeA × V128} {y y' : SeeN × V128} (hx : RunsIn (SeeA.CheckRow s.opr) i x x')
    (hy : RunsIn (SeeN.CheckRow s.opr) j y y') (hx' : x'.1.pos = .idle) (hy' : y'.1.pos = .idle)
    (turns : List Engine) :
    runTicks (i + j) (s.inQ0 turns x y) = .next (s.inQ0 (turns.drop (i + j)) x' y') := by
  induction hk : i + j generalizing i j x y turns with
  | zero =>
    obtain ⟨rfl, rfl⟩ : i = 0 ∧ j = 0 := by omega
    cases hx; cases hy; rfl
  | succ k ih =>
    have hbusy : (s.inQ0 turns x y).mode = .busy := hm
    cases he : engineToStep (s.inQ0 turns x y) with
    | seeA =>
      have hxi : x.1.pos ≠ .idle := seeA_running_of_engineToStep he
      obtain ⟨i, z, rfl, hrow, hz⟩ := hx.cons_of_ne (by rintro rfl; exact hxi hx')
      simp [runTicks, hbusy, tick_inQ0_seeA hop he hrow, ih hz hy turns.tail (by omega)]
    | seeN =>
      have hyi : y ≠ y' := by
        rintro rfl
        have hxi : x.1.pos = .idle := by
          by_contra hxi
          exact seeN_running_of_engineToStep he hxi hy'
        cases hx with
        | refl => cases hy with
          | refl => omega
          | cons h _ => exact h.pos_ne_idle hy'
        | cons h _ => exact h.pos_ne_idle hxi
      obtain ⟨j, z, rfl, hrow, hz⟩ := hy.cons_of_ne hyi
      simp [runTicks, hbusy, tick_inQ0_seeN hop he hrow, ih hx hz turns.tail (by omega)]

/-- Q1: `Q.MATCH` is set (R195). -/
theorem tick_q1 {s : State} (hop : opOfCode s.opr.op = .check) (hq : s.eqo.pos = .q1) :
    tick s = .next (s.setEqo { s.eqo with matched := matchFlag s.eqo.oa s.eqo.on, pos := .q2 }) := by
  simp [tick_of_check hop, eqoStep, hq, execEqoCompare]

/-- Q2 with `Q.MATCH = 1` (R195). -/
theorem tick_q2_of_matched {s : State} (hop : opOfCode s.opr.op = .check) (hq : s.eqo.pos = .q2)
    (hf : s.eqo.matched = true) : tick s = .next (s.setEqo { s.eqo with pos := .q3 }) := by
  simp [tick_of_check hop, eqoStep, hq, execEqoCompare, hf, goQ]

/-- Q2 with `Q.MATCH = 0` (R195). -/
theorem tick_q2_of_not_matched {s : State} (hop : opOfCode s.opr.op = .check) (hq : s.eqo.pos = .q2)
    (hf : s.eqo.matched = false) :
    tick s = .next (s.setEqo { s.eqo with diff := diffIndex s.eqo.oa s.eqo.on, pos := .q4 }) := by
  simp [tick_of_check hop, eqoStep, hq, execEqoCompare, hf]

/-- Q3: the OK response (R195). -/
theorem tick_q3 {s : State} (hop : opOfCode s.opr.op = .check) (hq : s.eqo.pos = .q3) :
    tick s = .next (respondCheck s) := by
  simp [tick_of_check hop, eqoStep, hq]

/-- Q4: EquivalenceMismatch (R213). -/
theorem tick_q4 {s : State} (hop : opOfCode s.opr.op = .check) (hq : s.eqo.pos = .q4) :
    tick s = .next (raiseMismatch s.eqo.oa s.eqo.on s.eqo.diff s) := by
  simp [tick_of_check hop, eqoStep, hq]

/-- From Q1 with equal output blocks CHECK compares and responds OK in three steps (R195). -/
theorem runTicks_q1_of_eq {s : State} (hm : s.mode = .busy) (hop : opOfCode s.opr.op = .check)
    (hq : s.eqo.pos = .q1) (heq : s.eqo.oa = s.eqo.on) :
    runTicks 3 s = .next (respondCheck (s.setEqo { s.eqo with matched := true, pos := .q3 })) := by
  have hmatch : matchFlag s.eqo.oa s.eqo.on = true := beq_iff_eq.2 heq
  have h1 := runTicks_succ_of_next (k := 0) rfl hm (tick_q1 hop hq)
  rw [hmatch] at h1
  have h2 := runTicks_succ_of_next h1 hm (tick_q2_of_matched hop rfl rfl)
  exact runTicks_succ_of_next h2 hm (tick_q3 hop rfl)

/-- CHECK at its end (R191, R195). -/
def checkDone (k : Sched) (b : V128) (n : Nat) (s : State) : State :=
  respondCheck
    (((((latchChain .check k b n s).setTurns (s.turns.drop (9 + 34 * n))).setSeeA
      (seeADone s.seeA n (chain k b n))).setSeeN (seeNDone k (chain k b n))).setEqo
      { s.eqo with oa := chain k b n, on := chain k b n, matched := true, pos := .q3 })

theorem runTicks_acceptCheck (k : Sched) (b : V128) (n : Nat) (s : State) :
    runTicks (checkTicks n) (acceptCheck k b n s) = .next (checkDone k b n s) := by
  have hq0 := runTicks_inQ0 (s := acceptCheck k b n s) rfl rfl
    (SeeA.runs_check (acceptCheck k b n s).opr s.seeA s.eqo.oa)
    (SeeN.runs_check (acceptCheck k b n s).opr s.seeN s.eqo.on) rfl rfl s.turns
  have hlen : 3 + 22 * (acceptCheck k b n s).opr.n + (6 + 12 * (acceptCheck k b n s).opr.n) = 9 + 34 * n := by
    simp only [acceptCheck, latchChain]; simp [goQ, goN, goA, enterBusy]; omega
  rw [hlen] at hq0
  rw [show checkTicks n = 9 + 34 * n + 3 by simp only [checkTicks]; omega, runTicks_add]
  exact (congrArg (andThen · (runTicks 3)) hq0).trans (runTicks_q1_of_eq rfl rfl rfl rfl)

end Sys2Proof.Machine
end

section
/-!
PROOFS. What an instruction in READY, an accept event, a sequencer step, an event of the requester and a run of the
machine can do, said once each.
-/

namespace Sys2Proof.Machine

/-! ## Instructions in READY -/

/-- A request in READY: accepted, and run to where its steps lead (R74). It is stated for any length `k`, so that no
proof that uses it evaluates a run. -/
theorem transact_of_ready {start : State → Result} {k : Nat} {s a t : State} (h : s.mode = .ready)
    (ha : start s = .next a) (ht : runTicks k a = .next t) : transact start k s = .next t := by
  rw [transact, if_pos h, ha, andThen_next, ht]

theorem exec_expand_of_ready {s : State} (h : s.mode = .ready) (key : V128) :
    exec (.expand key) s = .next (expandDone key s) :=
  transact_of_ready h rfl (runTicks_acceptExpand key s)

theorem exec_chainA_of_ready {s : State} (h : s.mode = .ready) (k : Sched) (b : V128) (n : Nat) :
    exec (.chainA k b n) s = .next (chainADone k b n s) :=
  transact_of_ready h rfl (runTicks_acceptChainA k b n s)

theorem exec_chainN_of_ready {s : State} (h : s.mode = .ready) (k : Sched) (b : V128) (n : Nat) :
    exec (.chainN k b n) s = .next (chainNDone k b n s) :=
  transact_of_ready h rfl (runTicks_acceptChainN k b n s)

theorem exec_check_of_ready {s : State} (h : s.mode = .ready) (k : Sched) (b : V128) (n : Nat) :
    exec (.check k b n) s = .next (checkDone k b n s) :=
  transact_of_ready h rfl (runTicks_acceptCheck k b n s)

/-- The state in which an operation or pseudo-operation issued in READY ends; `exec_of_ready` ties it to the
machine. -/
def opDone : Instr → State → State
  | .expand key, s => expandDone key s
  | .chainA k b n, s => chainADone k b n s
  | .chainN k b n, s => chainNDone k b n s
  | .check k b n, s => checkDone k b n s
  | .potA key b n, s => chainADone (expandEk key) b n (expandDone key s)
  | .potN key b n, s => chainNDone (expandEk key) b n (expandDone key s)
  | .potCheck key b n, s => checkDone (expandEk key) b n (expandDone key s)
  | _, s => s

/-- EXPAND in READY, and then another instruction with what it answered (R80). -/
theorem andThen_expand_of_ready {s : State} (h : s.mode = .ready) (key : V128) (f : State → Result) :
    andThen (execExpand key s) f = f (expandDone key s) :=
  congrArg (andThen · f) (exec_expand_of_ready h key)

theorem exec_of_ready {i : Instr} {s : State} (hi : i.isMicro = false) (h : s.mode = .ready) :
    exec i s = .next (opDone i s) := by
  cases i with
  | expand key => exact exec_expand_of_ready h key
  | chainA k b n => exact exec_chainA_of_ready h k b n
  | chainN k b n => exact exec_chainN_of_ready h k b n
  | check k b n => exact exec_check_of_ready h k b n
  | potA key b n => exact (andThen_expand_of_ready h key _).trans (exec_chainA_of_ready rfl _ b n)
  | potN key b n => exact (andThen_expand_of_ready h key _).trans (exec_chainN_of_ready rfl _ b n)
  | potCheck key b n => exact (andThen_expand_of_ready h key _).trans (exec_check_of_ready rfl _ b n)
  | _ => cases hi

theorem opDone_mode {i : Instr} (hi : i.isMicro = false) (s : State) : (opDone i s).mode = .ready := by
  cases i with
  | expand | chainA | chainN | check | potA | potN | potCheck => rfl
  | _ => cases hi

/-- A line of a program decodes to an operation or a pseudo-operation (R78). -/
theorem decodeRequest_isMicro (p : Request) : (decodeRequest p).isMicro = false := by
  unfold decodeRequest
  cases opOfCode p.op <;> rfl

theorem decode_isMicro (l : Line) : (decode l).isMicro = false := by
  cases l with
  | op p => exact decodeRequest_isMicro p
  | pot k key b n => cases k <;> rfl

/-! ## Acceptance of a request -/

/-- The state once the request on the ports is accepted. -/
def accepted (p : Request) (s : State) : State :=
  match opOfCode p.op with
  | .expand => acceptExpand p.key s
  | .chainA => acceptChainA (unpackSched p.sched) p.block p.n s
  | .chainN => acceptChainN (unpackSched p.sched) p.block p.n s
  | .check => acceptCheck (unpackSched p.sched) p.block p.n s

theorem startRequest_eq (p : Request) (s : State) : startRequest Config.hardware p s = .next (accepted p s) := by
  unfold startRequest accepted
  cases opOfCode p.op <;> rfl

theorem accepted_mode (p : Request) (s : State) : (accepted p s).mode = .busy := by
  unfold accepted
  cases opOfCode p.op <;> rfl

theorem accepted_inputs (p : Request) (s : State) : (accepted p s).inputs = s.inputs := by
  unfold accepted
  cases opOfCode p.op <;> rfl

/-- An accepted request runs to where the same instruction as a call ends. -/
theorem runTicks_accepted (p : Request) (s : State) :
    runTicks (requestTicks p) (accepted p s) = .next (opDone (decodeRequest p) s) := by
  unfold requestTicks accepted decodeRequest
  cases opOfCode p.op with
  | expand => exact runTicks_acceptExpand p.key s
  | chainA => exact runTicks_acceptChainA _ p.block p.n s
  | chainN => exact runTicks_acceptChainN _ p.block p.n s
  | check => exact runTicks_acceptCheck _ p.block p.n s

/-! ## What a sequencer step can do -/

/-- A step short of a response: it changes registers of the units and uses turns up, and no counter exceeds both what
it was and the latched count. -/
structure UnitStep (s t : State) : Prop where
  frame : t = { s with kse := t.kse, seeA := t.seeA, seeN := t.seeN, eqo := t.eqo, turns := t.turns }
  i_le : t.seeA.i ≤ max s.seeA.i s.opr.n
  c_le : t.seeN.c ≤ max s.seeN.c s.opr.n

/-- A respond event, and for MISMATCH where it comes from. -/
inductive Responds (s : State) : State → Prop
  | expand : Responds s (respondExpand s)
  | chainA : Responds s (respondChainA s)
  | chainN : Responds s (respondChainN s)
  | check : Responds s (respondCheck s)
  | mismatch (hop : opOfCode s.opr.op = .check) (hq : s.eqo.pos = .q4) :
      Responds s (raiseMismatch s.eqo.oa s.eqo.on s.eqo.diff s)

theorem UnitStep.of_counters {s t : State}
    (h : t = { s with kse := t.kse, seeA := t.seeA, seeN := t.seeN, eqo := t.eqo, turns := t.turns })
    (hi : t.seeA.i = s.seeA.i) (hc : t.seeN.c = s.seeN.c) : UnitStep s t :=
  ⟨h, hi ▸ Nat.le_max_left .., hc ▸ Nat.le_max_left ..⟩

theorem SeeA.Row.i_le {l : OperandLatch} {a b : SeeA} (h : SeeA.Row l a b) : b.i ≤ max a.i l.n := by
  cases h with
  | a0 => exact Nat.le_max_right ..
  | a6 => exact Nat.le_trans (Nat.sub_le ..) (Nat.le_max_left ..)
  | _ => exact Nat.le_max_left ..

theorem SeeN.Row.c_le {l : OperandLatch} {a b : SeeN} (h : SeeN.Row l a b) : b.c ≤ max a.c l.n := by
  cases h with
  | n1 => exact Nat.le_max_right ..
  | n5 => exact Nat.le_trans (Nat.sub_le ..) (Nat.le_max_left ..)
  | _ => exact Nat.le_max_left ..

theorem kseStep_cases {s t : State} (h : kseStep s = .next t) : UnitStep s t ∨ Responds s t := by
  by_cases h4 : s.kse.pos = .k4
  · simp only [kseStep, h4] at h
    cases h
    exact .inr .expand
  · have hf : t = s.setKse t.kse := kseStep_frame h4 h
    rw [hf]
    exact .inl (.of_counters rfl rfl rfl)

theorem seeAStep_unitStep {s t : State} (h7 : s.seeA.pos ≠ .a7) (h : seeAStep s = .next t) : UnitStep s t := by
  by_cases hi : s.seeA.pos = .idle
  · simp only [seeAStep, hi] at h
    cases h
    exact .of_counters rfl rfl rfl
  · obtain ⟨b, hb, rfl⟩ := (seeAStep_eq_next_iff hi h7).1 h
    exact ⟨rfl, hb.i_le, Nat.le_max_left ..⟩

theorem seeNStep_unitStep {s t : State} (h7 : s.seeN.pos ≠ .n7) (h : seeNStep s = .next t) : UnitStep s t := by
  by_cases hi : s.seeN.pos = .idle
  · simp only [seeNStep, hi] at h
    cases h
    exact .of_counters rfl rfl rfl
  · obtain ⟨b, hb, rfl⟩ := (seeNStep_eq_next_iff hi h7).1 h
    exact ⟨rfl, Nat.le_max_left .., hb.c_le⟩

theorem seeAStep_cases {s t : State} (h : seeAStep s = .next t) : UnitStep s t ∨ Responds s t := by
  by_cases h7 : s.seeA.pos = .a7
  · simp only [seeAStep, h7] at h
    cases h
    exact .inr .chainA
  · exact .inl (seeAStep_unitStep h7 h)

theorem seeNStep_cases {s t : State} (h : seeNStep s = .next t) : UnitStep s t ∨ Responds s t := by
  by_cases h7 : s.seeN.pos = .n7
  · simp only [seeNStep, h7] at h
    cases h
    exact .inr .chainN
  · exact .inl (seeNStep_unitStep h7 h)

/-- Leaving Q0 moves EQO's position at most. -/
theorem leaveQ0_eq (s : State) : leaveQ0 s = s.setEqo { s.eqo with pos := (leaveQ0 s).eqo.pos } := by
  unfold leaveQ0
  split <;> rfl

theorem seeAInCheck_unitStep {s t : State} (h : seeAInCheck s = .next t) : UnitStep s t := by
  by_cases h7 : s.seeA.pos = .a7
  · simp only [seeAInCheck, h7] at h
    cases h
    rw [leaveQ0_eq]
    exact .of_counters rfl rfl rfl
  · exact seeAStep_unitStep h7 (seeAInCheck_of_ne h7 ▸ h)

theorem seeNInCheck_unitStep {s t : State} (h : seeNInCheck s = .next t) : UnitStep s t := by
  by_cases h7 : s.seeN.pos = .n7
  · simp only [seeNInCheck, h7] at h
    cases h
    rw [leaveQ0_eq]
    exact .of_counters rfl rfl rfl
  · exact seeNStep_unitStep h7 (seeNInCheck_of_ne h7 ▸ h)

/-- Using up a turn before a step of a unit. -/
theorem UnitStep.of_setTurns {s t : State} {l : List Engine} (h : UnitStep (s.setTurns l) t) : UnitStep s t :=
  ⟨h.frame, h.i_le, h.c_le⟩

/-- A sequencer step works inside the units, or it is a respond event. -/
theorem tick_cases {s t : State} (h : tick s = .next t) : UnitStep s t ∨ Responds s t := by
  cases hop : opOfCode s.opr.op with
  | expand => exact kseStep_cases (tick_of_expand hop ▸ h)
  | chainA => exact seeAStep_cases (tick_of_chainA hop ▸ h)
  | chainN => exact seeNStep_cases (tick_of_chainN hop ▸ h)
  | check =>
    cases hq : s.eqo.pos with
    | idle =>
      simp only [tick_of_check hop, eqoStep, hq] at h
      cases h
      exact .inl (.of_counters rfl rfl rfl)
    | q0 =>
      cases he : engineToStep s with
      | seeA => exact .inl (seeAInCheck_unitStep (tick_q0_seeA hop hq he ▸ h)).of_setTurns
      | seeN => exact .inl (seeNInCheck_unitStep (tick_q0_seeN hop hq he ▸ h)).of_setTurns
    | q1 =>
      rw [tick_q1 hop hq] at h
      cases h
      exact .inl (.of_counters rfl rfl rfl)
    | q2 =>
      cases hf : s.eqo.matched with
      | true =>
        rw [tick_q2_of_matched hop hq hf] at h
        cases h
        exact .inl (.of_counters rfl rfl rfl)
      | false =>
        rw [tick_q2_of_not_matched hop hq hf] at h
        cases h
        exact .inl (.of_counters rfl rfl rfl)
    | q3 =>
      rw [tick_q3 hop hq] at h
      cases h
      exact .inr .check
    | q4 =>
      rw [tick_q4 hop hq] at h
      cases h
      exact .inr (.mismatch hop hq)

theorem tick_opr {s t : State} (h : tick s = .next t) : t.opr = s.opr := by
  rcases tick_cases h with hu | hr
  · rw [hu.frame]
  · cases hr <;> rfl

theorem tick_inputs {s t : State} (h : tick s = .next t) : t.inputs = s.inputs := by
  rcases tick_cases h with hu | hr
  · rw [hu.frame]
  · cases hr <;> rfl

/-! ## Steps by the requester's event -/

theorem step_of_ready {s : State} (h : s.mode = .ready) : step s = readyStep (nextEvent s) (dropEvent s) := by
  simp [step, stepOn, dropEvent, h]

theorem step_of_busy {s : State} (h : s.mode = .busy) : step s = busyStep (nextEvent s) (dropEvent s) := by
  simp [step, stepOn, dropEvent, h]

theorem step_of_fatal {s : State} (h : s.mode = .fatal) : step s = fatalStep (nextEvent s) (dropEvent s) := by
  simp [step, stepOn, dropEvent, h]

/-- A request presented in READY is accepted (R74). -/
theorem readyStep_present (p : Request) (s : State) : readyStep (.present p) s = .next (accepted p s) :=
  startRequest_eq p s

/-- A call in READY runs its line to the end (R74, R79). -/
theorem readyStep_call {s : State} (h : s.mode = .ready) (l : Line) :
    readyStep (.call l) s = .next (opDone (decode l) s) := exec_of_ready (decode_isMicro l) h

/-- In BUSY everything but reset leaves the sequencer its step (R26, R74). -/
theorem busyStep_of_ne_reset {e : HostEvent} (h : e ≠ .reset) (s : State) : busyStep e s = tick s := by
  cases e with
  | reset => exact absurd rfl h
  | _ => rfl

/-- In FATAL everything but reset is used up without effect (R215). -/
theorem fatalStep_of_ne_reset {e : HostEvent} (h : e ≠ .reset) (s : State) : fatalStep e s = .next s := by
  cases e with
  | reset => exact absurd rfl h
  | _ => rfl

theorem step_of_busy_of_ne_reset {s : State} (h : s.mode = .busy) (he : nextEvent s ≠ .reset) :
    step s = tick (dropEvent s) := (step_of_busy h).trans (busyStep_of_ne_reset he _)

/-! ## Runs of the machine with no event to come -/

theorem dropEvent_of_no_inputs {s : State} (h : s.inputs = []) : dropEvent s = s :=
  State.eq_of_fields rfl rfl rfl rfl rfl rfl rfl rfl rfl rfl (by simp [dropEvent, h]) rfl

theorem step_of_busy_of_no_inputs {s : State} (hm : s.mode = .busy) (hi : s.inputs = []) : step s = tick s := by
  rw [step_of_busy_of_ne_reset hm (by simp [nextEvent, hi]), dropEvent_of_no_inputs hi]

theorem step_of_not_busy_of_no_inputs {s : State} (hm : s.mode ≠ .busy) (hi : s.inputs = []) : step s = .next s := by
  have he : nextEvent s = .idle := by simp [nextEvent, hi]
  cases h : s.mode with
  | ready => rw [step_of_ready h, he, dropEvent_of_no_inputs hi]; rfl
  | busy => exact absurd h hm
  | fatal => rw [step_of_fatal h, he, dropEvent_of_no_inputs hi]; rfl

theorem run_succ (k : Nat) (s : State) :
    Host.Core.run core (k + 1) s = andThen (step s) (Host.Core.run core k) := by
  have h : Host.Core.step core s = step s := rfl
  cases hs : step s <;> simp only [Host.Core.run, h, hs] <;> rfl

/-- With no event to come the machine runs the sequencer, and nothing else. -/
theorem run_eq_runTicks {s : State} (hi : s.inputs = []) (k : Nat) : Host.Core.run core k s = runTicks k s := by
  induction k generalizing s with
  | zero => rfl
  | succ k ih =>
    rw [run_succ]
    by_cases hm : s.mode = .busy
    · simp only [step_of_busy_of_no_inputs hm hi, runTicks, if_pos hm]
      cases ht : tick s with
      | next t => exact ih ((tick_inputs ht).trans hi)
      | fault | refused => rfl
    · rw [step_of_not_busy_of_no_inputs hm hi, runTicks_of_not_busy hm]
      exact (ih hi).trans (runTicks_of_not_busy hm k)

end Sys2Proof.Machine
end

section
/-!
PROOFS. The control invariant: what it says in each mode, and that every step answers a next state and keeps it.
-/

namespace Sys2Proof.Machine

/-! ## The control invariant, mode by mode -/

theorem ctlInv_iff (s : State) :
    CtlInv s ↔ kseCtl s.kse = true ∧ seeACtl s.seeA = true ∧ seeNCtl s.seeN = true ∧ eqoCtl s.eqo = true ∧
      positionsCtl s = true ∧ frCtl s = true ∧ lastCtl s = true := by
  simp only [CtlInv, Bool.and_eq_true, and_assoc]

theorem frCtl_of_ne_fatal {s : State} (h : s.mode ≠ .fatal) : frCtl s = !s.fr.valid := by
  have hb : (s.mode == .fatal) = false := beq_eq_false_iff_ne.2 h
  cases hv : s.fr.valid <;> simp [frCtl, hb, hv]

/-- In READY every sequencer rests, there is no fatal record, and no request is under way. -/
theorem ctlInv_iff_of_ready {s : State} (hm : s.mode = .ready) :
    CtlInv s ↔ s.kse.pos = .idle ∧ s.seeA.pos = .idle ∧ s.seeN.pos = .idle ∧ s.eqo.pos = .idle ∧
      s.fr.valid = false ∧ s.last ≠ .running := by
  have hf : s.mode ≠ .fatal := by simp [hm]
  constructor
  · intro h
    obtain ⟨-, -, -, -, hp, hv, hl⟩ := (ctlInv_iff s).1 h
    simp_all [positionsCtl, frCtl_of_ne_fatal, lastCtl]
  · rintro ⟨hk, ha, hn, hq, hv, hl⟩
    simp [ctlInv_iff, kseCtl, seeACtl, seeNCtl, eqoCtl, positionsCtl, frCtl_of_ne_fatal hf, lastCtl, hm, hk, ha, hn, hq,
      hv, hl]

/-- In BUSY there is no fatal record, a request is under way, and the sequencers stand as the operation asks. -/
theorem ctlInv_iff_of_busy {s : State} (hm : s.mode = .busy) :
    CtlInv s ↔ kseCtl s.kse = true ∧ seeACtl s.seeA = true ∧ seeNCtl s.seeN = true ∧ eqoCtl s.eqo = true ∧
      positionsCtl s = true ∧ s.fr.valid = false ∧ s.last = .running := by
  simp [ctlInv_iff, frCtl_of_ne_fatal (s := s) (by simp [hm]), lastCtl, hm]

section Busy
variable {s : State} (hm : s.mode = .busy)
include hm

/-- EXPAND under way: KSE runs, and no other sequencer. -/
theorem ctlInv_iff_of_expand (hop : opOfCode s.opr.op = .expand) :
    CtlInv s ↔ kseCtl s.kse = true ∧ s.kse.pos ≠ .idle ∧ s.seeA.pos = .idle ∧ s.seeN.pos = .idle ∧
      s.eqo.pos = .idle ∧ s.fr.valid = false ∧ s.last = .running := by
  rw [ctlInv_iff_of_busy hm]
  constructor
  · rintro ⟨hk, -, -, -, hp, hv, hl⟩
    simp_all [positionsCtl]
  · rintro ⟨hk, hi, ha, hn, hq, hv, hl⟩
    simp [seeACtl, seeNCtl, eqoCtl, positionsCtl, hm, hop, hk, hi, ha, hn, hq, hv, hl]

/-- CHAIN_A under way: SEE-A runs, and no other sequencer. -/
theorem ctlInv_iff_of_chainA (hop : opOfCode s.opr.op = .chainA) :
    CtlInv s ↔ seeACtl s.seeA = true ∧ s.seeA.pos ≠ .idle ∧ s.kse.pos = .idle ∧ s.seeN.pos = .idle ∧
      s.eqo.pos = .idle ∧ s.fr.valid = false ∧ s.last = .running := by
  rw [ctlInv_iff_of_busy hm]
  constructor
  · rintro ⟨-, ha, -, -, hp, hv, hl⟩
    simp_all [positionsCtl]
  · rintro ⟨ha, hi, hk, hn, hq, hv, hl⟩
    simp [kseCtl, seeNCtl, eqoCtl, positionsCtl, hm, hop, hk, hi, ha, hn, hq, hv, hl]

/-- CHAIN_N under way: SEE-N runs, and no other sequencer. -/
theorem ctlInv_iff_of_chainN (hop : opOfCode s.opr.op = .chainN) :
    CtlInv s ↔ seeNCtl s.seeN = true ∧ s.seeN.pos ≠ .idle ∧ s.kse.pos = .idle ∧ s.seeA.pos = .idle ∧
      s.eqo.pos = .idle ∧ s.fr.valid = false ∧ s.last = .running := by
  rw [ctlInv_iff_of_busy hm]
  constructor
  · rintro ⟨-, -, hn, -, hp, hv, hl⟩
    simp_all [positionsCtl]
  · rintro ⟨hn, hi, hk, ha, hq, hv, hl⟩
    simp [kseCtl, seeACtl, eqoCtl, positionsCtl, hm, hop, hk, hi, ha, hn, hq, hv, hl]

/-- CHECK in Q0: at least one engine runs. -/
theorem ctlInv_iff_of_q0 (hop : opOfCode s.opr.op = .check) (hq : s.eqo.pos = .q0) :
    CtlInv s ↔ seeACtl s.seeA = true ∧ seeNCtl s.seeN = true ∧ (s.seeA.pos ≠ .idle ∨ s.seeN.pos ≠ .idle) ∧
      s.kse.pos = .idle ∧ s.fr.valid = false ∧ s.last = .running := by
  rw [ctlInv_iff_of_busy hm]
  constructor
  · rintro ⟨-, ha, hn, -, hp, hv, hl⟩
    simp_all [positionsCtl]
  · rintro ⟨ha, hn, hi, hk, hv, hl⟩
    simp [kseCtl, eqoCtl, positionsCtl, hm, hop, hq, hk, ha, hn, hv, hl]
    exact hi

/-- CHECK after Q0: both engines rest, and EQO's flags are as its steps left them. -/
theorem ctlInv_iff_of_compare (hop : opOfCode s.opr.op = .check) (hq : s.eqo.pos ≠ .q0) (hi : s.eqo.pos ≠ .idle) :
    CtlInv s ↔ eqoCtl s.eqo = true ∧ s.kse.pos = .idle ∧ s.seeA.pos = .idle ∧ s.seeN.pos = .idle ∧
      s.fr.valid = false ∧ s.last = .running := by
  rw [ctlInv_iff_of_busy hm]
  constructor
  · rintro ⟨-, -, -, he, hp, hv, hl⟩
    simp_all [positionsCtl]
  · rintro ⟨he, hk, ha, hn, hv, hl⟩
    simp [kseCtl, seeACtl, seeNCtl, positionsCtl, hm, hop, hq, hi, hk, ha, hn, he, hv, hl]

end Busy

/-! ## Every row keeps the counters of its unit in range (R115) -/

/-- A round index below its last value steps inside its range. -/
theorem roundIndex_add_one {m : Nat} {r : BitVec 4} (hm : m < 15) (h1 : 1 ≤ r.toNat) (hle : r.toNat ≤ m)
    (hne : r.toNat ≠ m) : 1 ≤ (r + 1).toNat ∧ (r + 1).toNat ≤ m := by
  have hone : (1 : BitVec 4).toNat = 1 := rfl
  rw [BitVec.toNat_add, hone]
  omega

theorem SeeA.Row.ctl {l : OperandLatch} {a b : SeeA} (h : SeeA.Row l a b) (ha : seeACtl a = true) :
    seeACtl b = true := by
  cases h with
  | a0 h | a6 h => rfl
  | a1Done h hi | a1More h hi => simp [seeACtl, hi]
  | a2 h => simp_all [seeACtl]
  | a3 h hr => simp_all [seeACtl]
  | a4Next h hr =>
    have h9 : a.r.toNat ≠ 9 := fun h9 => hr (BitVec.eq_of_toNat_eq h9)
    simp only [seeACtl, h, Bool.and_eq_true, decide_eq_true_eq] at ha ⊢
    obtain ⟨⟨hi, h1⟩, hle⟩ := ha
    exact ⟨⟨hi, (roundIndex_add_one (by omega) h1 hle h9).1⟩, (roundIndex_add_one (by omega) h1 hle h9).2⟩
  | a4Last h hr => simp_all [seeACtl]
  | a5 h => simp_all [seeACtl]

theorem SeeN.Row.ctl {l : OperandLatch} {a b : SeeN} (h : SeeN.Row l a b) (ha : seeNCtl a = true) :
    seeNCtl b = true := by
  cases h with
  | n0 h | n1 h | n2 h | n5 h => rfl
  | ntDone h hc | ntMore h hc => simp [seeNCtl, hc]
  | n3 j h =>
    simp only [afterRound]
    split <;> simp_all [seeNCtl]
  | n4 h | n6 h => simp_all [seeNCtl]

theorem Kse.Row.ctl {l : OperandLatch} {a b : Kse} (h : Kse.Row l a b) (ha : kseCtl a = true) :
    kseCtl b = true := by
  cases h with
  | k0 h => rfl
  | k1 h q hr | k2Middle h q hr => simp_all [kseCtl]
  | k2Last h hr => simp_all [kseCtl]
  | k3Next h hr =>
    have h10 : a.r.toNat ≠ 10 := fun h10 => hr (BitVec.eq_of_toNat_eq h10)
    simp only [kseCtl, h, Bool.and_eq_true, decide_eq_true_eq] at ha ⊢
    exact roundIndex_add_one (by omega) ha.1 ha.2 h10
  | k3Last h hr => simp [kseCtl, hr]

/-- A row of KSE leads to a step of its table. -/
theorem Kse.Row.running {l : OperandLatch} {a b : Kse} (h : Kse.Row l a b) : b.pos ≠ .idle := by
  cases h <;> simp

theorem SeeA.CheckRow.ctl {l : OperandLatch} {x y : SeeA × V128} (h : SeeA.CheckRow l x y)
    (hx : seeACtl x.1 = true) : seeACtl y.1 = true := by
  cases h with
  | row o h => exact h.ctl hx
  | copy o h => rfl

theorem SeeN.CheckRow.ctl {l : OperandLatch} {x y : SeeN × V128} (h : SeeN.CheckRow l x y)
    (hx : seeNCtl x.1 = true) : seeNCtl y.1 = true := by
  cases h with
  | row o h => exact h.ctl hx
  | copy o h => rfl

/-! ## Under the control invariant a sequencer step answers a next state, and keeps the invariant -/

/-- SEE-A's round index names an entry at A3 (R57, R115). -/
theorem seeA_entry_of_ctl {a : SeeA} (h : seeACtl a = true) (hp : a.pos = .a3) : a.r.toNat < 11 := by
  simp [seeACtl, hp] at h
  omega

/-- KSE's round index names an entry at K1 (R57, R115). -/
theorem kse_entry_of_ctl {a : Kse} (h : kseCtl a = true) (hp : a.pos = .k1) : 1 ≤ a.r.toNat ∧ a.r.toNat ≤ 10 := by
  simpa [kseCtl, hp] using h

theorem SeeA.exists_checkRow (l : OperandLatch) {a : SeeA} (o : V128) (h : seeACtl a = true) (hi : a.pos ≠ .idle) :
    ∃ x, SeeA.CheckRow l (a, o) x := by
  by_cases h7 : a.pos = .a7
  · exact ⟨_, .copy o h7⟩
  · obtain ⟨b, hb⟩ := SeeA.exists_row l hi h7 (seeA_entry_of_ctl h)
    exact ⟨_, .row o hb⟩

theorem SeeN.exists_checkRow (l : OperandLatch) {a : SeeN} (o : V128) (hi : a.pos ≠ .idle) :
    ∃ x, SeeN.CheckRow l (a, o) x := by
  by_cases h7 : a.pos = .n7
  · exact ⟨_, .copy o h7⟩
  · obtain ⟨b, hb⟩ := SeeN.exists_row l hi h7
    exact ⟨_, .row o hb⟩

/-- A state in Q0 is one of those that `inQ0` lists. -/
theorem State.inQ0_self {s : State} (hq : s.eqo.pos = .q0) (hi : s.seeA.pos ≠ .idle ∨ s.seeN.pos ≠ .idle) :
    s.inQ0 s.turns (s.seeA, s.eqo.oa) (s.seeN, s.eqo.on) = s := by
  have hn : ¬ (s.seeA.pos = .idle ∧ s.seeN.pos = .idle) := by tauto
  have he : { s.eqo with pos := .q0 } = s.eqo := hq ▸ rfl
  simp only [State.inQ0, if_neg hn]
  exact congrArg s.setEqo he

/-- Q0, and Q1 once both engines have ended, satisfy the control invariant as long as the engines do. -/
theorem ctlInv_inQ0 {s : State} (hm : s.mode = .busy) (hop : opOfCode s.opr.op = .check) (hk : s.kse.pos = .idle)
    (hv : s.fr.valid = false) (hl : s.last = .running) (turns : List Engine) {x : SeeA × V128} {y : SeeN × V128}
    (hx : seeACtl x.1 = true) (hy : seeNCtl y.1 = true) : CtlInv (s.inQ0 turns x y) := by
  by_cases hi : x.1.pos = .idle ∧ y.1.pos = .idle
  · have hp : (s.inQ0 turns x y).eqo.pos = .q1 := if_pos hi
    rw [ctlInv_iff_of_compare (s := s.inQ0 turns x y) hm hop (by simp [hp]) (by simp [hp])]
    exact ⟨by simp [eqoCtl, hp], hk, hi.1, hi.2, hv, hl⟩
  · have hp : (s.inQ0 turns x y).eqo.pos = .q0 := if_neg hi
    rw [ctlInv_iff_of_q0 (s := s.inQ0 turns x y) hm hop hp]
    exact ⟨hx, hy, by tauto, hk, hv, hl⟩

theorem tick_ctlInv_q0 {s : State} (hm : s.mode = .busy) (hop : opOfCode s.opr.op = .check) (hq : s.eqo.pos = .q0)
    (h : CtlInv s) : ∃ t, tick s = .next t ∧ CtlInv t := by
  obtain ⟨ha, hn, hi, hk, hv, hl⟩ := (ctlInv_iff_of_q0 hm hop hq).1 h
  have hself := State.inQ0_self hq hi
  cases he : engineToStep s with
  | seeA =>
    obtain ⟨x, hx⟩ := SeeA.exists_checkRow s.opr s.eqo.oa ha (seeA_running_of_engineToStep he)
    refine ⟨_, hself ▸ tick_inQ0_seeA hop (hself.symm ▸ he) hx, ?_⟩
    exact ctlInv_inQ0 hm hop hk hv hl _ (hx.ctl ha) hn
  | seeN =>
    have hni : s.seeN.pos ≠ .idle := by
      by_cases hai : s.seeA.pos = .idle
      · exact hi.resolve_left (not_not_intro hai)
      · exact seeN_running_of_engineToStep he hai
    obtain ⟨y, hy⟩ := SeeN.exists_checkRow s.opr s.eqo.on hni
    refine ⟨_, hself ▸ tick_inQ0_seeN hop (hself.symm ▸ he) hy, ?_⟩
    exact ctlInv_inQ0 hm hop hk hv hl _ ha (hy.ctl hn)

theorem tick_ctlInv_compare {s : State} (hm : s.mode = .busy) (hop : opOfCode s.opr.op = .check)
    (hq : s.eqo.pos ≠ .q0) (hi : s.eqo.pos ≠ .idle) (h : CtlInv s) : ∃ t, tick s = .next t ∧ CtlInv t := by
  obtain ⟨he, hk, ha, hn, hv, hl⟩ := (ctlInv_iff_of_compare hm hop hq hi).1 h
  have keep : ∀ q : Eqo, q.pos ≠ .q0 → q.pos ≠ .idle → eqoCtl q = true → CtlInv (s.setEqo q) :=
    fun q h0 h1 hc => (ctlInv_iff_of_compare (s := s.setEqo q) hm hop h0 h1).2 ⟨hc, hk, ha, hn, hv, hl⟩
  cases hp : s.eqo.pos with
  | idle => exact absurd hp hi
  | q0 => exact absurd hp hq
  | q1 => exact ⟨_, tick_q1 hop hp, keep _ (by simp) (by simp) (by simp [eqoCtl])⟩
  | q2 =>
    have hmatch : s.eqo.matched = (s.eqo.oa == s.eqo.on) := by simpa [eqoCtl, hp, matchFlag] using he
    cases hf : s.eqo.matched with
    | true =>
      exact ⟨_, tick_q2_of_matched hop hp hf, keep _ (by simp) (by simp) (by simp [eqoCtl, ← hmatch, hf])⟩
    | false =>
      have hne : s.eqo.oa ≠ s.eqo.on := beq_eq_false_iff_ne.1 (hmatch ▸ hf)
      exact ⟨_, tick_q2_of_not_matched hop hp hf, keep _ (by simp) (by simp) (by simp [eqoCtl, hne])⟩
  | q3 => exact ⟨_, tick_q3 hop hp, (ctlInv_iff_of_ready rfl).2 ⟨hk, ha, hn, rfl, hv, nofun⟩⟩
  | q4 =>
    obtain ⟨hne, hd⟩ : s.eqo.oa ≠ s.eqo.on ∧ s.eqo.diff = diffIndex s.eqo.oa s.eqo.on := by
      simpa [eqoCtl, hp] using he
    refine ⟨_, tick_q4 hop hp, ?_⟩
    simp [raiseMismatch_eq, ctlInv_iff, kseCtl, seeACtl, seeNCtl, eqoCtl, positionsCtl, frCtl, lastCtl, hk, ha, hn,
      hne, ← hd]

/-- A sequencer step of the operation in progress answers a next state that satisfies the control invariant. -/
theorem tick_ctlInv {s : State} (hm : s.mode = .busy) (h : CtlInv s) : ∃ t, tick s = .next t ∧ CtlInv t := by
  cases hop : opOfCode s.opr.op with
  | expand =>
    obtain ⟨hk, hi, ha, hn, hq, hv, hl⟩ := (ctlInv_iff_of_expand hm hop).1 h
    rw [tick_of_expand hop]
    by_cases h4 : s.kse.pos = .k4
    · exact ⟨respondExpand s, by simp [kseStep, h4], (ctlInv_iff_of_ready rfl).2 ⟨rfl, ha, hn, hq, hv, nofun⟩⟩
    · obtain ⟨b, hb⟩ := Kse.exists_row s.opr hi h4 (kse_entry_of_ctl hk)
      exact ⟨_, kseStep_of_row hb, (ctlInv_iff_of_expand (s := s.setKse b) hm hop).2
        ⟨hb.ctl hk, hb.running, ha, hn, hq, hv, hl⟩⟩
  | chainA =>
    obtain ⟨ha, hi, hk, hn, hq, hv, hl⟩ := (ctlInv_iff_of_chainA hm hop).1 h
    rw [tick_of_chainA hop]
    by_cases h7 : s.seeA.pos = .a7
    · exact ⟨respondChainA s, by simp [seeAStep, h7], (ctlInv_iff_of_ready rfl).2 ⟨hk, rfl, hn, hq, hv, nofun⟩⟩
    · obtain ⟨b, hb⟩ := SeeA.exists_row s.opr hi h7 (seeA_entry_of_ctl ha)
      obtain ⟨-, -, hrun⟩ := hb.running
      exact ⟨_, seeAStep_of_row hb, (ctlInv_iff_of_chainA (s := s.setSeeA b) hm hop).2
        ⟨hb.ctl ha, hrun, hk, hn, hq, hv, hl⟩⟩
  | chainN =>
    obtain ⟨hn, hi, hk, ha, hq, hv, hl⟩ := (ctlInv_iff_of_chainN hm hop).1 h
    rw [tick_of_chainN hop]
    by_cases h7 : s.seeN.pos = .n7
    · exact ⟨respondChainN s, by simp [seeNStep, h7], (ctlInv_iff_of_ready rfl).2 ⟨hk, ha, rfl, hq, hv, nofun⟩⟩
    · obtain ⟨b, hb⟩ := SeeN.exists_row s.opr hi h7
      obtain ⟨-, -, hrun⟩ := hb.running
      exact ⟨_, seeNStep_of_row hb, (ctlInv_iff_of_chainN (s := s.setSeeN b) hm hop).2
        ⟨hb.ctl hn, hrun, hk, ha, hq, hv, hl⟩⟩
  | check =>
    by_cases hq : s.eqo.pos = .q0
    · exact tick_ctlInv_q0 hm hop hq h
    · refine tick_ctlInv_compare hm hop hq ?_ h
      intro hi
      simp [ctlInv_iff_of_busy hm, positionsCtl, hm, hop, hi] at h

/-! ## Every event keeps the control invariant -/

theorem resetEvent_ctlInv {s : State} (h : CtlInv s) : CtlInv (resetEvent s) := by
  refine (ctlInv_iff_of_ready rfl).2 ⟨rfl, rfl, rfl, rfl, rfl, ?_⟩
  obtain ⟨-, -, -, -, -, -, hl⟩ := (ctlInv_iff s).1 h
  by_cases hm : s.mode = .busy
  · simp [resetEvent, lastAfterReset_of_busy hm]
  · simp_all [resetEvent, lastAfterReset_of_not_busy hm, lastCtl]

theorem accepted_ctlInv (p : Request) {s : State} (hm : s.mode = .ready) (h : CtlInv s) : CtlInv (accepted p s) := by
  obtain ⟨hk, ha, hn, hq, hv, -⟩ := (ctlInv_iff_of_ready hm).1 h
  unfold accepted
  cases opOfCode p.op with
  | expand => exact (ctlInv_iff_of_expand rfl rfl).2 ⟨rfl, nofun, ha, hn, hq, hv, rfl⟩
  | chainA => exact (ctlInv_iff_of_chainA rfl rfl).2 ⟨rfl, nofun, hk, hn, hq, hv, rfl⟩
  | chainN => exact (ctlInv_iff_of_chainN rfl rfl).2 ⟨rfl, nofun, hk, ha, hq, hv, rfl⟩
  | check => exact (ctlInv_iff_of_q0 rfl rfl rfl).2 ⟨rfl, rfl, .inl nofun, hk, hv, rfl⟩

/-- An operation or pseudo-operation ends with the sequencers it ran at rest, its request answered, and no fatal
record. -/
theorem opDone_ctlInv {i : Instr} (hi : i.isMicro = false) {s : State} (hm : s.mode = .ready) (h : CtlInv s) :
    CtlInv (opDone i s) := by
  obtain ⟨hk, ha, hn, hq, hv, -⟩ := (ctlInv_iff_of_ready hm).1 h
  refine (ctlInv_iff_of_ready (opDone_mode hi s)).2 ?_
  cases i with
  | expand key => exact ⟨rfl, ha, hn, hq, hv, nofun⟩
  | chainA k b n => exact ⟨hk, rfl, hn, hq, hv, nofun⟩
  | chainN k b n => exact ⟨hk, ha, rfl, hq, hv, nofun⟩
  | check k b n => exact ⟨hk, rfl, rfl, rfl, hv, nofun⟩
  | potA key b n => exact ⟨rfl, rfl, hn, hq, hv, nofun⟩
  | potN key b n => exact ⟨rfl, ha, rfl, hq, hv, nofun⟩
  | potCheck key b n => exact ⟨rfl, rfl, rfl, rfl, hv, nofun⟩
  | _ => cases hi

/-- The step lemma of the control invariant: a step answers a next state, and keeps the invariant. -/
theorem step_ctlInv {s : State} (h : CtlInv s) : ∃ t, step s = .next t ∧ CtlInv t := by
  have hd : CtlInv (dropEvent s) := h
  cases hm : s.mode with
  | ready =>
    rw [step_of_ready hm]
    cases nextEvent s with
    | idle => exact ⟨_, rfl, hd⟩
    | reset => exact ⟨_, rfl, resetEvent_ctlInv hd⟩
    | present p => exact ⟨_, readyStep_present p _, accepted_ctlInv p hm hd⟩
    | call l => exact ⟨_, readyStep_call (s := dropEvent s) hm l, opDone_ctlInv (decode_isMicro l) hm hd⟩
  | busy =>
    by_cases he : nextEvent s = .reset
    · rw [step_of_busy hm, he]
      exact ⟨_, rfl, resetEvent_ctlInv hd⟩
    · rw [step_of_busy_of_ne_reset hm he]
      exact tick_ctlInv hm hd
  | fatal =>
    rw [step_of_fatal hm]
    by_cases he : nextEvent s = .reset
    · rw [he]
      exact ⟨_, rfl, resetEvent_ctlInv hd⟩
    · rw [fatalStep_of_ne_reset he]
      exact ⟨_, rfl, hd⟩

end Sys2Proof.Machine
end

section
/-!
PROOFS. The widths of the counters, and the statement on the control invariant (O3).
-/

namespace Sys2Proof.Machine

/-! ## The width of the counters -/

/-- Where the requester's events are the same, the widths are a matter of the three counts in the machine. -/
theorem countsFit_of_bounds {w : Nat} {s t : State} (h : CountsFit w s) (hn : t.opr.n < 2 ^ w)
    (hi : t.seeA.i < 2 ^ w) (hc : t.seeN.c < 2 ^ w) (hin : t.inputs = s.inputs) : CountsFit w t :=
  have ⟨_, _, _, he⟩ := h
  ⟨hn, hi, hc, hin ▸ he⟩

theorem dropEvent_countsFit {w : Nat} {s : State} (h : CountsFit w s) : CountsFit w (dropEvent s) := by
  obtain ⟨hn, hi, hc, he⟩ := h
  exact ⟨hn, hi, hc, fun e hmem => he e (List.mem_of_mem_tail hmem)⟩

theorem nextEvent_expressible {w : Nat} {s : State} (h : CountsFit w s) :
    (nextEvent s).expressible w = true := by
  obtain ⟨-, -, -, he⟩ := h
  unfold nextEvent
  cases hin : s.inputs with
  | nil => rfl
  | cons e es => exact he e (by simp [hin])

theorem tick_countsFit {w : Nat} {s t : State} (h : CountsFit w s) (ht : tick s = .next t) : CountsFit w t := by
  have ⟨hn, hi, hc, _⟩ := h
  have hopr := tick_opr ht
  rcases tick_cases ht with hu | hr
  · exact countsFit_of_bounds h (hopr ▸ hn) (hu.i_le.trans_lt (max_lt hi hn)) (hu.c_le.trans_lt (max_lt hc hn))
      (tick_inputs ht)
  · cases hr <;> exact h

theorem accepted_countsFit {w : Nat} {p : Request} {s : State} (h : CountsFit w s)
    (hp : (decodeRequest p).count < 2 ^ w) : CountsFit w (accepted p s) := by
  obtain ⟨hn, hi, hc, he⟩ := h
  unfold accepted
  unfold decodeRequest at hp
  cases hop : opOfCode p.op with
  | expand => exact ⟨hn, hi, hc, he⟩
  | chainA | chainN | check => rw [hop] at hp; exact ⟨hp, hi, hc, he⟩

theorem opDone_countsFit {w : Nat} {i : Instr} {s : State} (h : CountsFit w s) (hi : i.isMicro = false)
    (hcount : i.count < 2 ^ w) : CountsFit w (opDone i s) := by
  obtain ⟨hn, hai, hnc, he⟩ := h
  have hz : 0 < 2 ^ w := Nat.two_pow_pos w
  cases i with
  | expand key => exact ⟨hn, hai, hnc, he⟩
  | chainA k b n | potA key b n => exact ⟨hcount, hz, hnc, he⟩
  | chainN k b n | potN key b n => exact ⟨hcount, hai, hz, he⟩
  | check k b n | potCheck key b n => exact ⟨hcount, hz, hz, he⟩
  | _ => cases hi

theorem step_countsFit {w : Nat} {s t : State} (h : CountsFit w s) (ht : step s = .next t) : CountsFit w t := by
  have hd := dropEvent_countsFit h
  have hev := nextEvent_expressible h
  have hreset : CountsFit w (resetEvent (dropEvent s)) :=
    countsFit_of_bounds hd (Nat.two_pow_pos w) (Nat.two_pow_pos w) (Nat.two_pow_pos w) rfl
  cases hm : s.mode with
  | ready =>
    rw [step_of_ready hm] at ht
    cases he : nextEvent s with
    | idle => rw [he] at ht; cases ht; exact hd
    | reset => rw [he] at ht; cases ht; exact hreset
    | present p =>
      rw [he] at hev
      rw [he, readyStep_present] at ht
      cases ht
      exact accepted_countsFit hd (by simpa [HostEvent.expressible] using hev)
    | call l =>
      rw [he] at hev
      rw [he, readyStep_call (s := dropEvent s) hm] at ht
      cases ht
      exact opDone_countsFit hd (decode_isMicro l) (by simpa [HostEvent.expressible] using hev)
  | busy =>
    by_cases he : nextEvent s = .reset
    · rw [step_of_busy hm, he] at ht
      cases ht
      exact hreset
    · rw [step_of_busy_of_ne_reset hm he] at ht
      exact tick_countsFit hd ht
  | fatal =>
    rw [step_of_fatal hm] at ht
    by_cases he : nextEvent s = .reset
    · rw [he] at ht
      cases ht
      exact hreset
    · rw [fatalStep_of_ne_reset he] at ht
      cases ht
      exact hd

/-- Settles O3: the step lemma of the control invariant, and the one of the widths. -/
theorem stepKeepsControlInvariant : Obligations.StepKeepsControlInvariant := by
  refine ⟨fun s t h ht => ?_, fun w s t h ht => step_countsFit h ht⟩
  obtain ⟨u, hu, hinv⟩ := step_ctlInv h
  cases hu.symm.trans ht
  exact hinv

end Sys2Proof.Machine
end

section
/-!
PROOFS. The other statements on the state and its steps: O15, O17, O18, O29, O51, O12, O13, O16.
-/

namespace Sys2Proof.Machine

/-! ## The mode and the operand latch -/

/-- A sequencer step stays in BUSY, or responds OK into READY, or raises EquivalenceMismatch at Q4 of CHECK (R34). -/
theorem tick_mode_cases {s t : State} (hm : s.mode = .busy) (h : tick s = .next t) :
    t.mode = .busy ∨ (t.mode = .ready ∧ t.free = s.free + 1 ∧ t.rsp.status = 0) ∨
      (t.mode = .fatal ∧ t.free = s.free + 1 ∧ t.rsp.status = 1 ∧ opOfCode s.opr.op = .check ∧
        s.eqo.pos = .q4) := by
  rcases tick_cases h with hu | hr
  · rw [hu.frame]
    exact .inl hm
  · cases hr with
    | expand | chainA | chainN | check => exact .inr (.inl ⟨rfl, rfl, rfl⟩)
    | mismatch hop hq => exact .inr (.inr ⟨rfl, rfl, rfl, hop, hq⟩)

/-- Only the code 3 selects CHECK (R76). -/
theorem code_of_check {c : BitVec 2} (h : opOfCode c = .check) : c = 3#2 := by
  revert c; decide

/-- From READY a step is in BUSY exactly by an accepted request, and never in FATAL (R34). -/
theorem step_mode_of_ready {s t : State} (hm : s.mode = .ready) (he : nextEvent s ≠ .reset) (h : step s = .next t) :
    (t.mode = .busy ↔ ∃ p, nextEvent s = .present p) ∧ t.mode ≠ .fatal := by
  rw [step_of_ready hm] at h
  cases hev : nextEvent s with
  | reset => exact absurd hev he
  | idle =>
    rw [hev] at h
    cases h
    simp [dropEvent, hm]
  | present p =>
    rw [hev, readyStep_present] at h
    cases h
    simp [accepted_mode]
  | call l =>
    rw [hev, readyStep_call (s := dropEvent s) hm] at h
    cases h
    simp [opDone_mode (decode_isMicro l)]

/-- Settles O15: what a step does to the mode, by the mode it starts in. -/
theorem modeChangesOnlyAsRuled : Obligations.ModeChangesOnlyAsRuled := by
  intro s t h he
  refine ⟨fun hm => step_mode_of_ready hm he h, fun hm => ?_, fun hm => ?_⟩
  · rw [step_of_busy_of_ne_reset hm he] at h
    rcases tick_mode_cases (s := dropEvent s) hm h with hb | hr | ⟨hf, hfree, hst, hop, hq⟩
    · exact .inl hb
    · exact .inr (.inl hr)
    · exact .inr (.inr ⟨hf, hfree, hst, code_of_check hop, hq⟩)
  · rw [step_of_fatal hm, fatalStep_of_ne_reset he] at h
    cases h
    exact ⟨hm, rfl⟩

/-- Settles O17: no sequencer step writes the latch. -/
theorem operandLatchIsConstantWhileBusy : Obligations.OperandLatchIsConstantWhileBusy := by
  intro s t hm he h
  rw [step_of_busy_of_ne_reset hm he] at h
  exact tick_opr (s := dropEvent s) h

/-! ## Presented requests and calls -/

/-- A run that has left BUSY is over: more steps change nothing. -/
theorem runTicks_of_le {j k : Nat} {s t : State} (h : runTicks j s = .next t) (hm : t.mode ≠ .busy) (hjk : j ≤ k) :
    runTicks k s = .next t := by
  obtain ⟨d, rfl⟩ := Nat.exists_eq_add_of_le hjk
  rw [runTicks_add, h]
  exact runTicks_of_not_busy hm d

theorem step_present {s : State} (hm : s.mode = .ready) (p : Request) (rest : List HostEvent) :
    step (s.setInputs (.present p :: rest)) = .next (accepted p (s.setInputs rest)) :=
  (step_of_ready (s := s.setInputs (.present p :: rest)) hm).trans (readyStep_present p _)

theorem step_call {s : State} (hm : s.mode = .ready) (l : Line) (rest : List HostEvent) :
    step (s.setInputs (.call l :: rest)) = exec (decode l) (s.setInputs rest) :=
  step_of_ready (s := s.setInputs (.call l :: rest)) hm

/-- Settles O18: both granularities end where `runTicks_accepted` says. -/
theorem presentedRequestRunsLikeACall : Obligations.PresentedRequestRunsLikeACall := by
  intro s p k hm hk
  have hrun : runTicks k (accepted p (s.setInputs [])) = .next (opDone (decodeRequest p) (s.setInputs [])) :=
    runTicks_of_le (runTicks_accepted p _) (by simp [opDone_mode (decodeRequest_isMicro p)]) hk
  have hcall := exec_of_ready (s := s.setInputs []) (decodeRequest_isMicro p) hm
  rw [step_call hm, Nat.add_comm, run_succ, step_present hm, decode, hcall, ← hrun]
  exact run_eq_runTicks (accepted_inputs p _) k

/-! ## What an operation answers -/

theorem expandDone_rsp (key : V128) (s : State) :
    (expandDone key s).rsp = { freeResponse s.free 0 with ek := expandEk key, dk := expandDk key } := rfl

theorem chainADone_rsp (k : Sched) (b : V128) (n : Nat) (s : State) :
    (chainADone k b n s).rsp = { freeResponse s.free 0 with block := chain k b n } := rfl

theorem chainNDone_rsp (k : Sched) (b : V128) (n : Nat) (s : State) :
    (chainNDone k b n s).rsp = { freeResponse s.free 0 with block := chain k b n } := rfl

theorem checkDone_rsp (k : Sched) (b : V128) (n : Nat) (s : State) :
    (checkDone k b n s).rsp = { freeResponse s.free 0 with block := chain k b n, blockN := chain k b n } := rfl

theorem expandDone_free (key : V128) (s : State) : (expandDone key s).free = s.free + 1 := rfl

/-- The response ports are a function of the operands and of the number of the response. -/
theorem opDone_rsp_congr {i : Instr} (hi : i.isMicro = false) {s u : State} (h : s.free = u.free) :
    (opDone i s).rsp = (opDone i u).rsp := by
  cases i with
  | expand key => simp only [opDone, expandDone_rsp, h]
  | chainA k b n | potA key b n => simp only [opDone, chainADone_rsp, expandDone_free, h]
  | chainN k b n | potN key b n => simp only [opDone, chainNDone_rsp, expandDone_free, h]
  | check k b n | potCheck key b n => simp only [opDone, checkDone_rsp, expandDone_free, h]
  | _ => cases hi

/-- Settles O29: the ends of the two runs are known, and their ports do not read the state. -/
theorem resultsDependOnOperandsOnly : Obligations.ResultsDependOnOperandsOnly := by
  intro i s u hi hs hu hfree
  exact ⟨_, _, exec_of_ready hi hs, exec_of_ready hi hu, opDone_rsp_congr hi hfree,
    (opDone_mode hi s).trans (opDone_mode hi u).symm⟩

/-! ## The comparison -/

/-- An index that `leastDiff` names is the least byte index at which the blocks differ. -/
theorem leastDiff_eq_some {a b : V128} {i : Nat} (h : leastDiff a b = some i) :
    i < 16 ∧ byte a i ≠ byte b i ∧ ∀ j, j < i → byte a j = byte b j := by
  rw [leastDiff, List.find?_range_eq_some] at h
  simpa [and_comm, and_left_comm] using h

/-- Blocks that differ do so at some byte (R9, R32). -/
theorem exists_leastDiff {a b : V128} (h : a ≠ b) : ∃ i, leastDiff a b = some i := by
  refine Option.ne_none_iff_exists'.1 fun hnone => h (eq_of_byte_eq fun i hi => ?_)
  rw [leastDiff, List.find?_eq_none] at hnone
  simpa using hnone i (List.mem_range.2 hi)

/-- `Q.DIFF` of blocks that differ (R32). -/
theorem diffIndex_spec {a b : V128} (h : a ≠ b) :
    byte a (diffIndex a b).toNat ≠ byte b (diffIndex a b).toNat ∧
      ∀ j, j < (diffIndex a b).toNat → byte a j = byte b j := by
  obtain ⟨i, hi⟩ := exists_leastDiff h
  obtain ⟨h16, hspec⟩ := leastDiff_eq_some hi
  have hnat : (diffIndex a b).toNat = i := by simp only [diffIndex, hi, BitVec.toNat_ofNat]; omega
  rwa [hnat]

/-- Settles O51: at Q1 the flag is the comparison, at Q2 the index is `diffIndex`. -/
theorem compareFindsTheLeastDifferingByte : Obligations.CompareFindsTheLeastDifferingByte := by
  intro s
  refine ⟨⟨_, rfl, rfl, beq_iff_eq⟩, fun h => if_pos h, fun h => ?_⟩
  exact ⟨s.setEqo { s.eqo with diff := diffIndex s.eqo.oa s.eqo.on, pos := .q4 },
    if_neg (by simp [h]), rfl, diffIndex_spec⟩

/-! ## Calls, sequencer steps and acceptance as the requester sees them -/

/-- Settles O12: a call is the next event, listed or placed by `withFetchWord`. -/
theorem stepRunsTheCalledInstruction : Obligations.StepRunsTheCalledInstruction := by
  refine ⟨fun s l rest hm hin => ?_, fun s nbits w i hm hi => ?_⟩
  · have hs : s = s.setInputs (.call l :: rest) := by rw [← hin]; rfl
    rw [hs]
    exact step_call hm l rest
  · cases hi
    exact step_call hm (.op (tableRequest nbits w)) s.inputs

/-- Settles O13: in BUSY only reset is answered otherwise. -/
theorem busyStepIsASequencerStep : Obligations.BusyStepIsASequencerStep :=
  fun _ hm he => step_of_busy_of_ne_reset hm he

/-- Settles O16: the accept event of each code, written out. -/
theorem acceptLatchesOperands : Obligations.AcceptLatchesOperands := by
  intro s p hm
  have h := step_present hm p s.inputs
  refine ⟨fun hop => ?_, fun hop => ?_, fun hop => ?_, fun hop => ?_⟩ <;>
    rw [h, accepted, hop] <;> rfl

end Sys2Proof.Machine
end

section
/-!
PROOFS. The round-key stores, entry by entry and byte by byte, and the statement that a step from the control
invariant is never stuck (O5, O60; `20_memory.md` rules R50 to R52, R57).
-/

namespace Sys2Proof.Machine

/-- Settles O5: the half of `step_ctlInv` that says a step answers a next state. -/
theorem stepFromInvariantAnswersNext : Obligations.StepFromInvariantAnswersNext := by
  intro s h
  obtain ⟨t, hstep, -⟩ := step_ctlInv h
  exact ⟨t, hstep⟩

/-! ## The round-key stores -/

/-- The byte-address notation places byte `i` of entry `r` at `16r + i` (R51). -/
theorem rkByte_of_lt (s : State) (r : Entry) {i : Nat} (h : i < 16) :
    rkByte s (16 * r.val + i) = byte (memRead s r) i := by
  have hdiv : (16 * r.val + i) / 16 = r.val := by omega
  have hmod : (16 * r.val + i) % 16 = i := by omega
  rw [rkByte, hdiv, hmod, memRead_eq_entry]

/-- A write of one entry of a round-key file, read at any entry (R52). -/
theorem getElem_set_entry (k : Sched) (r q : Entry) (x : V128) :
    (k.set r.val x r.isLt)[q] = if q = r then x else k[q] := by
  simp only [Fin.getElem_fin, Vector.getElem_set, Fin.ext_iff, eq_comm]

theorem memWriteEk_ek (r q : Entry) (x : V128) (s : State) :
    (memWriteEk r x s).kse.ek[q] = if q = r then x else s.kse.ek[q] :=
  getElem_set_entry s.kse.ek r q x

theorem memWriteDk_dk (r q : Entry) (x : V128) (s : State) :
    (memWriteDk r x s).kse.dk[q] = if q = r then x else s.kse.dk[q] :=
  getElem_set_entry s.kse.dk r q x

/-- A write of `EK` changes no other register of the CORE (R52). -/
theorem memWriteEk_frame (r : Entry) (x : V128) (s : State) :
    memWriteEk r x s = { s with kse.ek := (memWriteEk r x s).kse.ek } := rfl

/-- A write of `DK` changes no other register of the CORE (R52). -/
theorem memWriteDk_frame (r : Entry) (x : V128) (s : State) :
    memWriteDk r x s = { s with kse.dk := (memWriteDk r x s).kse.dk } := rfl

/-- Settles O60: the reads by `rkByte_of_lt`, the two writes by their entry and frame lemmas. -/
theorem roundKeyStoresAreEntrywise : Obligations.RoundKeyStoresAreEntrywise := by
  refine ⟨fun _ _ => rfl, fun s r i hi => rkByte_of_lt s r hi, fun s r q x => ?_⟩
  exact ⟨memWriteEk_ek r q x s, memWriteEk_frame r x s, memWriteDk_dk r q x s, memWriteDk_frame r x s⟩

end Sys2Proof.Machine
end

section
/-!
PROOFS. The schedule ports, the encoder and the decoder, and the requests that are not accepted: O7, O9, O6, O8, O11,
O14 (`30_encoding.md` rules R72 to R78).
-/

namespace Sys2Proof.Machine

/-! ## A schedule on its port (R72, R73) -/

theorem entry_unpackSched (x : BitVec 1408) {r : Nat} (h : r < 11) : entry (unpackSched x) r = schedLane x r := by
  interval_cases r <;> rfl

theorem schedLane_packSched (k : Sched) {r : Nat} (h : r < 11) : schedLane (packSched k) r = entry k r :=
  extractLsb'_joinLanes (by decide) (entry k) h (by decide)

/-- The bits of byte `i` of entry `r` (R72, R73). -/
theorem byte_schedLane (x : BitVec 1408) (r : Nat) {i : Nat} (h : i < 16) :
    byte (schedLane x r) i = x.extractLsb' (128 * r + 8 * i) 8 := by
  ext j hj
  have hlane : 8 * i + j < 128 := by omega
  simp [byte, schedLane, hlane, Nat.add_assoc]

/-- A port is determined by its eleven lanes. -/
theorem eq_of_schedLane_eq {x y : BitVec 1408} (h : ∀ r, r < 11 → schedLane x r = schedLane y r) : x = y := by
  apply BitVec.eq_of_getLsbD_eq
  intro j hj
  have hbit := congrArg (fun l => l.getLsbD (j % 128)) (h (j / 128) (by omega))
  have hmod : j % 128 < 128 := Nat.mod_lt _ (by decide)
  have hpos : 128 * (j / 128) + j % 128 = j := Nat.div_add_mod j 128
  simpa [schedLane, BitVec.getLsbD_extractLsb', hmod, hpos] using hbit

@[simp] theorem unpackSched_packSched (k : Sched) : unpackSched (packSched k) = k :=
  eq_of_entry_eq fun _ hr => (entry_unpackSched _ hr).trans (schedLane_packSched k hr)

@[simp] theorem packSched_unpackSched (x : BitVec 1408) : packSched (unpackSched x) = x :=
  eq_of_schedLane_eq fun _ hr => (schedLane_packSched _ hr).trans (entry_unpackSched x hr)

/-- Settles O7: entries by their lanes, bytes by `byte_schedLane`, and the two round trips. -/
theorem schedulePortHoldsItsBytes : Obligations.SchedulePortHoldsItsBytes := by
  refine ⟨fun x r i hr hi => ?_, packSched_unpackSched, unpackSched_packSched⟩
  rw [entry_unpackSched x hr]
  exact ⟨rfl, byte_schedLane x r hi⟩

/-! ## Encoding and decoding (R76, R78, R80) -/

/-- An instruction has a line in a requester's program exactly where it is no micro-operation (R78). -/
theorem isSome_encode (i : Instr) : (encode i).isSome = !i.isMicro := by
  cases i <;> rfl

/-- Decoding undoes encoding: each operand is taken from the port it was put on (R72, R76, R80). -/
theorem decode_of_encode {i : Instr} {l : Line} (h : encode i = some l) : decode l = i := by
  cases i with
  | expand | chainA | chainN | check => cases h; simp [decode, decodeRequest, requestOf]
  | potA | potN | potCheck => cases h; rfl
  | _ => cases h

/-- The encoder puts the count of an operation on `req_n`, and 0 where it has none (R70). -/
theorem n_of_encode {i : Instr} {p : Request} (h : encode i = some (.op p)) : p.n = i.count := by
  cases i with
  | expand | chainA | chainN | check => cases h; rfl
  | _ => cases h

/-- An expressible operation is read back from the ports it drives (R72, R245). -/
theorem decodePorts_of_encode {w : Nat} {i : Instr} {p : Request} (h : encode i = some (.op p))
    (hi : i.expressible w = true) : decodePorts (p.ports w) = i := by
  have hn : p.n < 2 ^ w := (n_of_encode h).trans_lt ((Instr.expressible_iff w i).1 hi)
  rw [decodePorts, Request.request_ports hn]
  exact decode_of_encode h

/-- Ports carry no instruction that they cannot express (R245). -/
theorem decodePorts_expressible {w : Nat} (q : Ports w) : (decodePorts q).expressible w = true := by
  rw [Instr.expressible_iff, decodePorts]
  rcases count_decodeRequest q.request with h | h
  · exact h ▸ q.request_n_lt
  · exact h ▸ Nat.two_pow_pos w

/-- "`CNT_W >= 20`", so that 1,000,000 fits (R8). -/
theorem million_lt_of_legal {cfg : Config} (h : cfg.legal) : 1000000 < 2 ^ cfg.cntW :=
  Nat.lt_of_lt_of_le (by decide : 1000000 < 2 ^ 20) (Nat.pow_le_pow_right (by decide) h)

/-- Settles O9: the round trip through a line and through the ports, and what a port can carry. -/
theorem decodeOfEncodeIsIdentity : Obligations.DecodeOfEncodeIsIdentity := by
  refine ⟨fun i => ⟨fun hi => ?_, fun hi => ?_⟩, fun _ _ _ => decodePorts_of_encode,
    fun _ => decodePorts_expressible, fun cfg k b h => ?_⟩
  · obtain ⟨l, hl⟩ := Option.isSome_iff_exists.1 ((isSome_encode i).trans (by simp [hi]))
    exact ⟨l, hl, decode_of_encode hl⟩
  · exact Option.isNone_iff_eq_none.1 (by simp [← Option.not_isSome, isSome_encode, hi])
  · have hlt := million_lt_of_legal h
    exact ⟨(Instr.expressible_iff ..).2 hlt, (Instr.expressible_iff ..).2 hlt, (Instr.expressible_iff ..).2 hlt⟩

/-! ## The operation code (R76, R77) -/

/-- Every code is assigned (R77). -/
@[simp] theorem codeOfOp_opOfCode (c : BitVec 2) : codeOfOp (opOfCode c) = c := by
  revert c; decide

/-- No operand value of an operation or pseudo-operation is illegal (R77). -/
theorem wf_of_isMicro_eq_false {i : Instr} (h : i.isMicro = false) : i.wf = true := by
  cases i with
  | expand | chainA | chainN | check | potA | potN | potCheck => rfl
  | _ => cases h

/-- Settles O6: decoder and dispatcher code by code; lines decode to no micro-operation, which alone can be ill-formed. -/
theorem operationCodeSelectsOperation : Obligations.OperationCodeSelectsOperation := by
  refine ⟨fun p => ?_, fun s => ?_, fun c => ⟨opOfCode c, codeOfOp_opOfCode c, rfl⟩,
    fun l => wf_of_isMicro_eq_false (decode_isMicro l)⟩
  · refine ⟨fun h => ?_, fun h => ?_, fun h => ?_, fun h => ?_⟩ <;> rw [decodeRequest, h] <;> rfl
  · exact ⟨fun h => tick_of_expand (congrArg opOfCode h), fun h => tick_of_chainA (congrArg opOfCode h),
      fun h => tick_of_chainN (congrArg opOfCode h), fun h => tick_of_check (congrArg opOfCode h)⟩

/-! ## The ports an operation does not use (R72) -/

/-- Only the code 0 selects EXPAND (R76). -/
theorem opOfCode_eq_expand_iff (c : BitVec 2) : opOfCode c = .expand ↔ c = 0#2 := by
  revert c; decide

/-- EXPAND reads `req_key` alone, the three others do not read it. -/
theorem decodeRequest_congr {p q : Request} (hop : p.op = q.op) (hkey : p.op = 0#2 → p.key = q.key)
    (hchain : p.op ≠ 0#2 → p.sched = q.sched ∧ p.block = q.block ∧ p.n = q.n) :
    decodeRequest p = decodeRequest q := by
  rw [decodeRequest, decodeRequest, ← hop]
  by_cases h : p.op = 0#2
  · rw [hkey h, (opOfCode_eq_expand_iff p.op).2 h]
  · obtain ⟨hs, hb, hn⟩ := hchain h
    rw [hs, hb, hn]
    cases ho : opOfCode p.op with
    | expand => exact absurd ((opOfCode_eq_expand_iff p.op).1 ho) h
    | chainA | chainN | check => rfl

/-- Acceptance takes nothing from the ports but the instruction they carry (R27, R72). -/
theorem accepted_congr {p q : Request} (hop : p.op = q.op) (h : decodeRequest p = decodeRequest q) (s : State) :
    accepted p s = accepted q s := by
  rw [decodeRequest, decodeRequest, hop] at h
  rw [accepted, accepted, hop]
  cases ho : opOfCode q.op with
  | expand =>
    rw [ho] at h
    injection h with hkey
    simp only [hkey]
  | chainA | chainN | check =>
    rw [ho] at h
    injection h with hs hb hn
    simp only [hs, hb, hn]

theorem step_of_fatal_of_ne_reset {s : State} (h : s.mode = .fatal) (he : nextEvent s ≠ .reset) :
    step s = .next (dropEvent s) := (step_of_fatal h).trans (fatalStep_of_ne_reset he _)

/-- Outside READY all events but reset are alike (R74, R215, R247). -/
theorem step_eq_of_not_ready {s : State} (hm : s.mode ≠ .ready) {e f : HostEvent} (he : e ≠ .reset) (hf : f ≠ .reset)
    (rest : List HostEvent) : step (s.setInputs (e :: rest)) = step (s.setInputs (f :: rest)) := by
  cases h : s.mode with
  | ready => exact absurd h hm
  | busy =>
    exact (step_of_busy_of_ne_reset (s := s.setInputs (e :: rest)) h he).trans
      (step_of_busy_of_ne_reset (s := s.setInputs (f :: rest)) h hf).symm
  | fatal =>
    exact (step_of_fatal_of_ne_reset (s := s.setInputs (e :: rest)) h he).trans
      (step_of_fatal_of_ne_reset (s := s.setInputs (f :: rest)) h hf).symm

/-- Settles O8: in READY a step reads of a request its code and the instruction it carries, elsewhere nothing of it. -/
theorem unusedPortsHaveNoEffect : Obligations.UnusedPortsHaveNoEffect := by
  intro p q s rest hop hkey hchain
  have hdec := decodeRequest_congr hop hkey hchain
  by_cases hm : s.mode = .ready
  · exact ⟨by rw [step_call hm, step_call hm, decode, decode, hdec],
      by rw [step_present hm, step_present hm, accepted_congr hop hdec]⟩
  · exact ⟨step_eq_of_not_ready hm (by simp) (by simp) rest, step_eq_of_not_ready hm (by simp) (by simp) rest⟩

/-! ## The words of the opcode table (R76) -/

theorem unpackSched_zero : unpackSched 0 = zeroSched := by
  simp [unpackSched, schedLane, zeroSched]

/-- A word of the operation rows is a code with every operand port at zero (log entry 6). -/
theorem tableRequest_of_lt {w : Nat} (h : w < 2 ^ 8) :
    tableRequest 8 w = { op := BitVec.ofNat 2 w, key := 0, sched := 0, block := 0, n := 0 } := by
  have hzero : ∀ j, 8 ≤ j → w >>> j = 0 := fun j hj =>
    Nat.shiftRight_eq_zero w j (Nat.lt_of_lt_of_le h (Nat.pow_le_pow_right (by decide) hj))
  rw [tableRequest, Nat.mod_eq_of_lt h, requestOfNat, hzero 8 (by decide), hzero 136 (by decide),
    hzero 1544 (by decide), hzero 1672 (by decide)]
  rfl

/-- Settles O11: each word leaves only its code, and the zero port is the zero schedule. -/
theorem tableWordsDecode : Obligations.TableWordsDecode := by
  refine ⟨?_, ?_, ?_, ?_⟩ <;> rw [decodeTableWord, tableRequest_of_lt (by decide), decodeRequest]
  · rfl
  all_goals rw [unpackSched_zero]; rfl

/-! ## Requests that are not accepted (R74, R215) -/

theorem transact_of_not_ready {start : State → Result} {k : Nat} {s : State} (h : s.mode ≠ .ready) :
    transact start k s = .next s := if_neg h

/-- Outside READY an operation is not accepted, and of a pseudo-operation neither request is (R74, R80). -/
theorem exec_of_not_ready {i : Instr} {s : State} (hi : i.isMicro = false) (h : s.mode ≠ .ready) :
    exec i s = .next s := by
  have hexpand : ∀ key f, andThen (execExpand key s) f = f s := fun key f =>
    congrArg (andThen · f) (transact_of_not_ready h)
  cases i with
  | expand | chainA | chainN | check => exact transact_of_not_ready h
  | potA | potN | potCheck => exact (hexpand _ _).trans (transact_of_not_ready h)
  | _ => cases hi

/-- Settles O14: no mode but READY accepts, and FATAL ignores every event but reset. -/
theorem requestWhileNotReadyLeavesNoTrace : Obligations.RequestWhileNotReadyLeavesNoTrace := by
  refine ⟨fun i s hi hr => exec_of_not_ready hi fun hm => ?_, fun s hf he => ?_⟩
  · simp [State.ready, hm] at hr
  · exact step_of_fatal_of_ne_reset (beq_iff_eq.1 hf) he

end Sys2Proof.Machine
end

section
/-!
PROOFS. The three pseudo-operations: O32, O33, O34 (`30_encoding.md` rule R80). Each is its two operations by
definition, and `exec_of_ready` gives the state both end in.
-/

namespace Sys2Proof.Machine

/-- Settles O32: the state CHAIN_A leaves after EXPAND, field by field. -/
theorem potARunsExpandThenChainA : Obligations.PotARunsExpandThenChainA := fun _ _ _ _ h =>
  ⟨rfl, _, exec_of_ready rfl h, rfl, rfl, rfl, rfl, rfl, rfl, rfl, rfl, rfl, rfl⟩

/-- Settles O33: the state CHAIN_N leaves after EXPAND, field by field. -/
theorem potNRunsExpandThenChainN : Obligations.PotNRunsExpandThenChainN := fun _ _ _ _ h =>
  ⟨rfl, _, exec_of_ready rfl h, rfl, rfl, rfl, rfl, rfl, rfl, rfl, rfl, rfl, rfl⟩

/-- Settles O34: the state CHECK leaves after EXPAND, field by field. -/
theorem potCheckRunsExpandThenCheck : Obligations.PotCheckRunsExpandThenCheck := fun _ _ _ _ h =>
  ⟨rfl, _, exec_of_ready rfl h, rfl, rfl, rfl, rfl, rfl, rfl, rfl, rfl, rfl, rfl⟩

end Sys2Proof.Machine
end

section
/-!
PROOFS. Arithmetic in GF(2^8), the S-box and the round constants: O45, O46, O47 (`40_aes_primitives.md` rules R102,
R103, R112).
-/

namespace Sys2Proof.Machine

/-! ## Sums of bytes (R102) -/

/-- Multiplication by `x` is linear: the bit shifted out of a sum is the sum of the bits shifted out. -/
theorem xtime_xor (a b : Byte) : xtime (a ^^^ b) = xtime a ^^^ xtime b := by
  unfold xtime
  rw [BitVec.shiftLeft_xor_distrib, BitVec.getLsbD_xor]
  cases a.getLsbD 7 <;> cases b.getLsbD 7 <;> simp <;> ac_nf
  simp

/-- Settles O45: `gmul` by a constant adds the doublings its bits select; the examples are evaluated. -/
theorem multipliersAreFieldProducts : Obligations.MultipliersAreFieldProducts := by
  refine ⟨fun a => ?_, by decide⟩
  and_intros <;> simp [gmul, gmulLoop, m2, m3, m9, m11, m13, m14] <;> ac_rfl

/-! ## The S-box and its formula (R103) -/

/-- A Boolean test that passes on the 256 numerals passes on every byte. -/
theorem forall_byte {p : Byte → Bool} (h : (List.range 256).all (fun n => p (BitVec.ofNat 8 n)) = true) (a : Byte) :
    p a = true := by
  simpa using List.all_eq_true.1 h a.toNat (List.mem_range.2 a.isLt)

/-- The inverse of the affine step of the S-box. -/
def sboxAffineInv (y : Byte) : Byte := y.rotateLeft 1 ^^^ y.rotateLeft 3 ^^^ y.rotateLeft 6 ^^^ 0x05#8

/-- The multiplicative inverse of a byte (0 for 0), read off the S-box table; `gmul_fieldInv` says that it is one. -/
def fieldInv (a : Byte) : Byte := sboxAffineInv (sbox a)

theorem sboxAffine_sboxAffineInv (y : Byte) : sboxAffine (sboxAffineInv y) = y :=
  beq_iff_eq.1 (forall_byte (p := fun y => sboxAffine (sboxAffineInv y) == y) (by decide +kernel) y)

theorem fieldInv_zero : fieldInv 0 = 0 := by decide

theorem gmul_fieldInv {a : Byte} (h : a ≠ 0) : gmul a (fieldInv a) = 1 := by
  have htable := forall_byte (p := fun a => a == 0 || gmul a (fieldInv a) == 1) (by decide +kernel) a
  rw [Bool.or_eq_true, beq_iff_eq, beq_iff_eq] at htable
  exact htable.resolve_left h

theorem fieldInv_fieldInv (a : Byte) : fieldInv (fieldInv a) = a :=
  beq_iff_eq.1 (forall_byte (p := fun a => fieldInv (fieldInv a) == a) (by decide +kernel) a)

theorem sbox_eq_sboxAffine (a : Byte) : sbox a = sboxAffine (fieldInv a) := (sboxAffine_sboxAffineInv _).symm

theorem sbox_ne_self (a : Byte) : sbox a ≠ a :=
  bne_iff_ne.1 (forall_byte (p := fun a => sbox a != a) (by decide +kernel) a)

/-- Equal entries of the table come from equal inverses, and so from equal bytes. -/
theorem sbox_injective : Function.Injective sbox := fun a b h => by
  have hinv : fieldInv a = fieldInv b := congrArg sboxAffineInv h
  rw [← fieldInv_fieldInv a, hinv, fieldInv_fieldInv]

/-- Settles O46: the table is the affine step after the inverse, and both can be undone. -/
theorem sboxTableMatchesItsFormula : Obligations.SboxTableMatchesItsFormula := by
  refine ⟨fun a => ⟨fieldInv a, ?_, sbox_eq_sboxAffine a⟩, sbox_injective, sbox_ne_self⟩
  split
  case isTrue h => rw [h, fieldInv_zero]
  case isFalse h => exact gmul_fieldInv h

/-! ## The round constants (R112) -/

/-- Settles O47: the table entry by entry. -/
theorem roundConstantsDouble : Obligations.RoundConstantsDouble := by
  refine ⟨rfl, rfl, rfl, rfl, rfl, rfl, rfl, rfl, rfl, rfl, rfl, fun r h1 h9 => ?_⟩
  interval_cases r <;> rfl

end Sys2Proof.Machine
end

section
/-!
PROOFS. The column steps as functions on blocks (`40_aes_primitives.md` rules R101, R106, R107): columns, linearity of
the two matrices, and their products.
-/

namespace Sys2Proof.Machine

/-! ## Columns of a block (R101) -/

/-- Byte `j` of column `c` of a block. -/
def column (x : V128) (c j : Nat) : Byte := byte x (4 * c + j)

/-- A column function on a column given as a whole. -/
def onColumn (f : Byte → Byte → Byte → Byte → Nat → Byte) (a : Nat → Byte) : Nat → Byte := f (a 0) (a 1) (a 2) (a 3)

section
variable {f g : Byte → Byte → Byte → Byte → Nat → Byte} {x y : V128} {c j : Nat}

theorem column_onColumns (hc : c < 4) (hj : j < 4) : column (onColumns f x) c j = onColumn f (column x c) j := by
  have hcol : (4 * c + j) / 4 = c := by omega
  have hrow : (4 * c + j) % 4 = j := by omega
  rw [column, byte_onColumns f x (by omega), hcol, hrow]
  rfl

/-- A block is determined by the bytes of its four columns. -/
theorem eq_of_column_eq (h : ∀ c j, c < 4 → j < 4 → column x c j = column y c j) : x = y := by
  refine eq_of_byte_eq fun i hi => ?_
  rw [← Nat.div_add_mod i 4]
  exact h _ _ (by omega) (by omega)

/-- Column functions that undo each other on a column do so on a block. -/
theorem onColumns_onColumns_cancel (h : ∀ a j, j < 4 → onColumn f (onColumn g a) j = a j) (x : V128) :
    onColumns f (onColumns g x) = x := by
  refine eq_of_column_eq fun c j hc hj => ?_
  rw [column_onColumns hc hj, ← h (column x c) j hj, onColumn, column_onColumns hc (by decide),
    column_onColumns hc (by decide), column_onColumns hc (by decide), column_onColumns hc (by decide)]
  rfl

/-- A column function that is linear on a column is linear on a block. -/
theorem onColumns_xor128 (h : ∀ a b j, onColumn f (fun k => a k ^^^ b k) j = onColumn f a j ^^^ onColumn f b j)
    (x y : V128) : onColumns f (xor128 x y) = xor128 (onColumns f x) (onColumns f y) := by
  refine eq_of_column_eq fun c j hc hj => ?_
  calc column (onColumns f (xor128 x y)) c j
      = onColumn f (fun k => column x c k ^^^ column y c k) j := by
        rw [column_onColumns hc hj]; simp only [onColumn, column, byte_xor128]
    _ = column (onColumns f x) c j ^^^ column (onColumns f y) c j := by
        rw [h, column_onColumns hc hj, column_onColumns hc hj]
    _ = column (xor128 (onColumns f x) (onColumns f y)) c j := (byte_xor128 ..).symm

/-- A column function that keeps four equal bytes keeps a column of four equal bytes. -/
theorem byte_onColumns_of_equal (h : ∀ a j, f a a a a j = a) (hc : c < 4) (hj : j < 4)
    (hx : ∀ i, i < 4 → byte x (4 * c + i) = byte x (4 * c)) : byte (onColumns f x) (4 * c + j) = byte x (4 * c) := by
  refine (column_onColumns hc hj).trans ?_
  rw [onColumn, column, column, column, column, hx 0 (by decide), hx 1 (by decide), hx 2 (by decide),
    hx 3 (by decide), h]

end

/-! ## The matrices of MIXCOLUMNS and INVMIXCOLUMNS (R106, R107)

A row is a sum of bytes and their doublings; `ac_nf` brings equal summands together, and `simp` cancels them. -/

theorem mixByte_equal (a : Byte) (j : Nat) : mixByte a a a a j = a := by
  match j with
  | 0 | 1 | 2 | _ + 3 =>
    simp only [mixByte, m2, m3]
    ac_nf
    simp

theorem invMixByte_equal (a : Byte) (j : Nat) : invMixByte a a a a j = a := by
  match j with
  | 0 | 1 | 2 | _ + 3 =>
    simp only [invMixByte, m9, m11, m13, m14]
    ac_nf
    simp

theorem onColumn_invMixByte_xor (a b : Nat → Byte) (j : Nat) :
    onColumn invMixByte (fun k => a k ^^^ b k) j = onColumn invMixByte a j ^^^ onColumn invMixByte b j := by
  match j with
  | 0 | 1 | 2 | _ + 3 =>
    simp only [onColumn, invMixByte, m9, m11, m13, m14, xtime_xor]
    ac_rfl

/-- The product of the two matrices is the identity before any reduction by the polynomial: linearity of `xtime` is
all it takes. -/
theorem onColumn_invMixByte_mixByte (a : Nat → Byte) (j : Nat) (hj : j < 4) :
    onColumn invMixByte (onColumn mixByte a) j = a j := by
  interval_cases j
  all_goals
    simp only [onColumn, mixByte, invMixByte, m2, m3, m9, m11, m13, m14, xtime_xor]
    ac_nf
    simp

theorem onColumn_mixByte_invMixByte (a : Nat → Byte) (j : Nat) (hj : j < 4) :
    onColumn mixByte (onColumn invMixByte a) j = a j := by
  interval_cases j
  all_goals
    simp only [onColumn, mixByte, invMixByte, m2, m3, m9, m11, m13, m14, xtime_xor]
    ac_nf
    simp

theorem invMixColumns_mixColumns (x : V128) : invMixColumns (mixColumns x) = x :=
  onColumns_onColumns_cancel onColumn_invMixByte_mixByte x

theorem mixColumns_invMixColumns (x : V128) : mixColumns (invMixColumns x) = x :=
  onColumns_onColumns_cancel onColumn_mixByte_invMixByte x

theorem invMixColumns_xor128 (x y : V128) : invMixColumns (xor128 x y) = xor128 (invMixColumns x) (invMixColumns y) :=
  onColumns_xor128 onColumn_invMixByte_xor x y

end Sys2Proof.Machine
end

section
/-!
PROOFS. The eight micro-operations as instructions: O35 to O44 (`40_aes_primitives.md` rules R100, R104 to R113). Each
writes one register (`exec_writes`); what it writes there is said byte by byte.
-/

namespace Sys2Proof.Machine

/-! ## Writing the named result (R100) -/

theorem microFrame_writeReg (d : VReg) (x : V128) (s : State) : MicroFrame d s (writeReg d x s) :=
  ⟨fun _ hr => readReg_writeReg_of_ne hr x s, writeReg_frame d x s⟩

/-- An instruction that writes one register leaves the value there and changes nothing else. -/
theorem exec_writes {i : Instr} {d : VReg} {s : State} (x : V128) (h : exec i s = .next (writeReg d x s)) :
    ∃ t, exec i s = .next t ∧ readReg t d = x ∧ MicroFrame d s t :=
  ⟨_, h, readReg_writeReg_self d x s, microFrame_writeReg d x s⟩

/-- Of two writes to a register the second counts. -/
theorem writeReg_writeReg (d : VReg) (x y : V128) (s : State) : writeReg d x (writeReg d y s) = writeReg d x s := by
  cases d <;> simp [writeReg, memWriteEk, memWriteDk]

/-- An operand other than the register written reads as before. -/
theorem readSrc_writeReg_of_ne {d : VReg} {k : VSrc} (h : k ≠ .reg d) (x : V128) (s : State) :
    readSrc (writeReg d x s) k = readSrc s k := by
  obtain ⟨hopr, -⟩ := writeReg_frame d x s
  cases k with
  | reg r => exact readReg_writeReg_of_ne (fun hr => h (congrArg VSrc.reg hr)) x s
  | rk | oprKey | oprBlock => simp only [readSrc, memRead, hopr]

/-! ## XOR128, SUBBYTES, SHIFTROWS (R104, R105, R108) -/

/-- Settles O35: the result by bytes, and the algebra of exclusive-or. -/
theorem xor128ActsBytewise : Obligations.Xor128ActsBytewise := by
  refine ⟨fun d a b s => ?_, fun a b c => ⟨xor128_comm a b, xor128_assoc a b c, BitVec.xor_self, BitVec.xor_zero⟩⟩
  obtain ⟨t, ht, hd, hframe⟩ := exec_writes (i := .xor128 d a b) (s := s) _ rfl
  exact ⟨t, ht, fun i _ => hd ▸ byte_xor128 _ _ i, hframe⟩

/-- Settles O36: the result by bytes. -/
theorem subbytesSubstitutesEachByte : Obligations.SubbytesSubstitutesEachByte := by
  intro d x s
  obtain ⟨t, ht, hd, hframe⟩ := exec_writes (i := .subbytes d x) (s := s) _ rfl
  exact ⟨t, ht, fun i hi => hd ▸ byte_subBytes _ hi, hframe⟩

/-- Byte `r` of column `c` after the rotation of the rows (R105). -/
theorem byte_shiftRows_row (x : V128) {r c : Nat} (hr : r < 4) (hc : c < 4) :
    byte (shiftRows x) (r + 4 * c) = byte x (r + 4 * ((c + r) % 4)) := by
  have hrow : (r + 4 * c) % 4 = r := by omega
  have hcol : (r + 4 * c) / 4 = c := by omega
  rw [byte_shiftRows x (by omega), hrow, hcol]

/-- Settles O37: the result by rows and columns. -/
theorem shiftrowsRotatesRows : Obligations.ShiftrowsRotatesRows := by
  intro d x s
  obtain ⟨t, ht, hd, hframe⟩ := exec_writes (i := .shiftrows d x) (s := s) _ rfl
  exact ⟨t, ht, fun r c hr hc => hd ▸ byte_shiftRows_row _ hr hc, hframe⟩

/-! ## MIXCOLUMNS, INVMIXCOLUMNS (R106, R107) -/

/-- Settles O38: the rows of the matrix, each at its place in the column. -/
theorem mixcolumnsMixesColumns : Obligations.MixcolumnsMixesColumns := by
  refine ⟨fun d x s => ?_, fun x c j hc hj hx => byte_onColumns_of_equal mixByte_equal hc hj hx⟩
  obtain ⟨t, ht, hd, hframe⟩ := exec_writes (i := .mixcolumns d x) (s := s) _ rfl
  refine ⟨t, ht, fun c hc => ?_, hframe⟩
  rw [hd]
  have hrow {j : Nat} (hj : j < 4) := column_onColumns (f := mixByte) (x := readSrc s x) hc hj
  exact ⟨hrow (j := 0) (by decide), hrow (j := 1) (by decide), hrow (j := 2) (by decide), hrow (j := 3) (by decide)⟩

/-- Settles O39: the rows of the matrix, its laws, and that a result in a register of KSE is asked for. -/
theorem invmixcolumnsInvertsMixcolumns : Obligations.InvmixcolumnsInvertsMixcolumns := by
  refine ⟨fun d x s => ?_, fun x => ⟨invMixColumns_mixColumns x, mixColumns_invMixColumns x⟩, invMixColumns_xor128,
    fun x c j hc hj hx => byte_onColumns_of_equal invMixByte_equal hc hj hx, fun d x hwf => ?_⟩
  · obtain ⟨t, ht, hd, hframe⟩ := exec_writes (i := .invmixcolumns d x) (s := s) _ rfl
    refine ⟨t, ht, fun c hc => ?_, hframe⟩
    rw [hd]
    have hrow {j : Nat} (hj : j < 4) := column_onColumns (f := invMixByte) (x := readSrc s x) hc hj
    exact ⟨hrow (j := 0) (by decide), hrow (j := 1) (by decide), hrow (j := 2) (by decide), hrow (j := 3) (by decide)⟩
  · obtain ⟨hunit, -⟩ := Bool.and_eq_true_iff.1 hwf
    simpa using hunit

/-! ## ROUND, FINALROUND (R109, R110, R111) -/

/-- Settles O40: the later of the four instructions overwrite the results of the earlier, and the key is read as at
the start. -/
theorem roundIsTheFourStepsInOrder : Obligations.RoundIsTheFourStepsInOrder := by
  refine ⟨fun d x k s => exec_writes (i := .round d x k) (s := s) _ rfl, fun d x k s hk => ?_⟩
  simp only [exec, execSubbytes, execShiftrows, execMixcolumns, execXor128, execRound, andThen_next, writeReg_writeReg,
    readSrc_writeReg_of_ne hk]
  simp only [readSrc, readReg_writeReg_self, aesRound]

/-- Settles O41: bytes of the key sum, the row shift and the substitution. -/
theorem finalroundOmitsColumnMixing : Obligations.FinalroundOmitsColumnMixing := by
  intro d x k s
  obtain ⟨t, ht, hd, hframe⟩ := exec_writes (i := .finalround d x k) (s := s) _ rfl
  refine ⟨t, ht, fun r c hr hc => ?_, hframe⟩
  rw [hd, aesFinalRound, byte_xor128, byte_shiftRows_row _ hr hc, byte_subBytes _ (by omega)]

/-- Settles O42: exclusive-or is associative. -/
theorem roundKeysActLinearly : Obligations.RoundKeysActLinearly := fun _ _ _ =>
  ⟨(xor128_assoc ..).symm, (xor128_assoc ..).symm⟩

/-! ## KEYSTEP (R112, R113) -/

/-- The first word is the old first word and the substituted last one. -/
theorem byte_keyStep_first (p : V128) (rc : Byte) {j : Nat} (h : j < 4) :
    byte (keyStep p rc) j = byte p j ^^^ keyWord p rc j := by
  rw [byte_keyStep p rc (by omega), Nat.mod_eq_of_lt h, Nat.div_eq_of_lt h, cascadeByte]

/-- "Each new word uses the new word before it" (R113). -/
theorem byte_keyStep_cascade (p : V128) (rc : Byte) {j : Nat} (h : j < 12) :
    byte (keyStep p rc) (4 + j) = byte p (4 + j) ^^^ byte (keyStep p rc) j := by
  have hword : (4 + j) / 4 = j / 4 + 1 := by omega
  have hbyte : (4 + j) % 4 = j % 4 := by omega
  have hsame : 4 * (j / 4 + 1) + j % 4 = 4 + j := by omega
  rw [byte_keyStep p rc (by omega), byte_keyStep p rc (by omega), hword, hbyte, cascadeByte, hsame]

/-- Settles O44: no case of the round constant is looked at. -/
theorem keystepRunsForEveryRoundIndex : Obligations.KeystepRunsForEveryRoundIndex := by
  intro d p r s
  obtain ⟨t, ht, hd, hframe⟩ := exec_writes (i := .keystep d p r) (s := s) _ rfl
  refine ⟨t, ht, ?_, hframe⟩
  rw [hd]
  exact ⟨byte_keyStep_first _ _ (by decide), byte_keyStep_first _ _ (by decide), byte_keyStep_first _ _ (by decide),
    fun j hj => byte_keyStep_cascade _ _ hj⟩

/-- Settles O43: in `1..10` there is a round constant, and KEYSTEP takes it. -/
theorem keystepDerivesTheNextRoundKey : Obligations.KeystepDerivesTheNextRoundKey := by
  intro d p r s h1 h10
  obtain ⟨rc, hrc⟩ := Option.isSome_iff_exists.1 ((rcon_isSome_iff r.toNat).2 ⟨h1, h10⟩)
  obtain ⟨t, ht, hd, hframe⟩ := exec_writes (i := .keystep d p r) (s := s) _ rfl
  refine ⟨t, rc, ht, hrc, ?_, hframe⟩
  rw [roundConstant_of_rcon hrc] at hd
  rw [hd]
  refine ⟨byte_keyStep_first _ _ (by decide), byte_keyStep_first _ _ (by decide), byte_keyStep_first _ _ (by decide),
    byte_keyStep_first _ _ (by decide), fun j hj => ⟨byte_keyStep_cascade _ _ (by omega), ?_, ?_⟩⟩
  · simpa only [← Nat.add_assoc] using byte_keyStep_cascade (readSrc s p) rc (j := 4 + j) (by omega)
  · simpa only [← Nat.add_assoc] using byte_keyStep_cascade (readSrc s p) rc (j := 8 + j) (by omega)

end Sys2Proof.Machine
end

section
/-!
PROOFS. KSE as the requester and as the step table see it: O20, O21, O48, O52 (`41_key_schedule.md` rules R131 to
R135).
-/

namespace Sys2Proof.Machine

/-! ## The schedules, entry by entry (R131 to R133) -/

theorem entry_schedOf (f : Nat → V128) {r : Nat} (h : r < 11) : entry (schedOf f) r = f r := by
  rw [entry_of_lt _ h]
  exact filled_getElem f zeroSched h h

theorem entry_expandEk (key : V128) {r : Nat} (h : r < 11) : entry (expandEk key) r = ekOf key r := entry_schedOf _ h

theorem entry_expandDk (key : V128) {r : Nat} (h : r < 11) : entry (expandDk key) r = dkOf key r := entry_schedOf _ h

/-- Where there is a round constant, an entry comes from the entry before it (R132). -/
theorem ekOf_succ_of_rcon {q : Nat} {rc : Byte} (h : rcon (q + 1) = some rc) (key : V128) :
    ekOf key (q + 1) = keyStep (ekOf key q) rc := by
  rw [ekOf, h]

theorem dkOf_middle (key : V128) {r : Nat} (h1 : 1 ≤ r) (h9 : r ≤ 9) : dkOf key r = invMixColumns (ekOf key r) := by
  rw [dkOf, if_neg (by omega), if_pos h9]

theorem dkOf_last (key : V128) : dkOf key 10 = ekOf key 10 := by simp [dkOf]

/-- Round key 0 of both schedules is the key, and entry 10 is the same in both (R134). -/
theorem expand_ends (key : V128) : entry (expandEk key) 0 = key ∧ entry (expandDk key) 0 = key ∧
    entry (expandDk key) 10 = entry (expandEk key) 10 := by
  refine ⟨entry_expandEk key (by decide), entry_expandDk key (by decide), ?_⟩
  rw [entry_expandDk key (by decide), entry_expandEk key (by decide), dkOf_last]

/-! ## EXPAND (R131 to R134) -/

/-- Settles O20: the state EXPAND ends in, field by field; the schedules by the recursion of their entries. -/
theorem expandComputesBothSchedules : Obligations.ExpandComputesBothSchedules := by
  intro key s hm
  obtain ⟨hek, hdk, hlast⟩ := expand_ends key
  refine ⟨_, exec_expand_of_ready hm key, rfl, rfl, rfl, hek, hdk, fun r h1 h10 => ?_, fun r h1 h9 => ?_, hlast,
    rfl, rfl, rfl, rfl, rfl, rfl, rfl, rfl⟩ <;> rw [expandDone_rsp]
  · obtain ⟨rc, hrc⟩ := Option.isSome_iff_exists.1 ((rcon_isSome_iff r).2 ⟨h1, h10⟩)
    obtain ⟨q, rfl⟩ := Nat.exists_eq_add_of_le' h1
    refine ⟨rc, hrc, ?_⟩
    rw [entry_expandEk key (by omega), entry_expandEk key (by omega)]
    exact ekOf_succ_of_rcon hrc key
  · rw [entry_expandDk key (by omega), entry_expandEk key (by omega), dkOf_middle key h1 h9]

/-- Settles O21: what EXPAND answers does not read the state. -/
theorem expandIsDeterministicWithFixedEnds : Obligations.ExpandIsDeterministicWithFixedEnds := fun key _ _ hs hu =>
  ⟨_, _, exec_expand_of_ready hs key, exec_expand_of_ready hu key, rfl, rfl, expand_ends key⟩

/-! ## Loop control and the step table (R135) -/

/-- Settles O48: the branches of KSE.LOOP. -/
theorem kseLoopControlsTheRoundIndex : Obligations.KseLoopControlsTheRoundIndex := fun _ =>
  ⟨rfl, fun h => if_pos h, fun h => if_neg h⟩

/-- Settles O52: each row by `kseStep_of_row`, whose result is what the row's instruction answers. -/
theorem kseFollowsItsStepTable : Obligations.KseFollowsItsStepTable := by
  intro s
  refine ⟨fun h => tick_of_expand (by rw [h]; rfl), fun h => ?_, fun q h hr => ?_, fun q h hr => ?_, fun h hr => ?_,
    fun h => ?_, fun h => ?_⟩
  · exact kseStep_of_row (.k0 h)
  · exact kseStep_of_row (.k1 h q hr)
  · exact kseStep_of_row (.k2Middle h q hr)
  · exact kseStep_of_row (.k2Last h (by rw [hr]; decide))
  · rw [kseStep, h]; rfl
  · exact ⟨respondExpand s, by rw [kseStep, h], rfl, rfl, rfl, rfl, rfl⟩

end Sys2Proof.Machine
end

section
/-!
PROOFS. The invariant `Correct`: every row keeps the loop invariant of its unit, so every step keeps them all and none
leads to FATAL: O4 (`41_key_schedule.md` rule R136, `42_engine_accelerated.md` rule R157, `43_engine_native.md` rule
R177, `44_equivalence_oracle.md` rule R193).
-/

namespace Sys2Proof.Machine

/-! ## KSE (R136) -/

/-- The entries of a file below `m` are those of `f`. -/
def Filled (f : Nat → V128) (k : Sched) (m : Nat) : Prop := ∀ j, j < m → entry k j = f j

theorem ekDone_iff (key : V128) (k : Kse) (m : Nat) : ekDone key k m = true ↔ Filled (ekOf key) k.ek m := by
  simp [ekDone, Filled]

theorem dkDone_iff (key : V128) (k : Kse) (m : Nat) : dkDone key k m = true ↔ Filled (dkOf key) k.dk m := by
  simp [dkDone, Filled]

theorem Filled.zero (f : Nat → V128) (k : Sched) : Filled f k 0 := nofun

theorem Filled.getElem {f : Nat → V128} {k : Sched} {m j : Nat} (h : Filled f k m) (hm : m ≤ 11) (hj : j < m) :
    k[j] = f j := by
  rw [← entry_of_lt k (by omega), h j hj]

/-- Writing entry `m` fills one entry more. -/
theorem Filled.set {f : Nat → V128} {k : Sched} {m : Nat} (h : Filled f k m) (hm : m < 11) {x : V128} (hx : x = f m) :
    Filled f (k.set m x) (m + 1) := by
  intro j hj
  rw [entry_of_lt _ (by omega), Vector.getElem_set]
  split
  · next heq => rw [hx, heq]
  · exact h.getElem hm.le (by omega)

/-- A round index below 15 does not wrap. -/
theorem roundIndex_toNat_add_one {r : BitVec 4} (h : r.toNat < 15) : (r + 1).toNat = r.toNat + 1 :=
  BitVec.toNat_add_of_lt (show r.toNat + 1 < 16 by omega)

/-- A row of KSE keeps its loop invariant. -/
theorem Kse.Row.data {l : OperandLatch} {a b : Kse} (h : Kse.Row l a b) (hc : kseCtl a = true)
    (hd : kseData l a = true) : kseData l b = true := by
  cases h with
  | k0 h =>
    simp only [kseData, Bool.and_eq_true, ekDone_iff, dkDone_iff]
    exact ⟨(Filled.zero _ _).set (by omega) rfl, (Filled.zero _ _).set (by omega) rfl⟩
  | k1 h q hr =>
    simp only [kseData, h, hr, Bool.and_eq_true, ekDone_iff, dkDone_iff] at hd ⊢
    obtain ⟨hek, hdk⟩ := hd
    have hround : a.r = BitVec.ofNat 4 (q.val + 1) := by rw [← hr, BitVec.ofNat_toNat, BitVec.setWidth_eq]
    refine ⟨hek.set (by omega) ?_, hdk⟩
    rw [hek.getElem (by omega) (Nat.lt_succ_self _), hround, keyStep_ekOf l.key q.isLt]
  | k2Middle h q hr =>
    simp only [kseData, kseCtl, h, hr, Bool.and_eq_true, decide_eq_true_eq, ekDone_iff, dkDone_iff] at hc hd ⊢
    obtain ⟨hek, hdk⟩ := hd
    refine ⟨hek, hdk.set (by omega) ?_⟩
    rw [hek.getElem (by omega) (Nat.lt_succ_self _), dkOf_middle l.key hc.1 (by omega)]
  | k2Last h hr =>
    simp only [kseCtl, h, Bool.and_eq_true, decide_eq_true_eq] at hc
    have h10 : a.r.toNat = 10 := by omega
    simp only [kseData, h, h10, Bool.and_eq_true, ekDone_iff, dkDone_iff] at hd ⊢
    obtain ⟨hek, hdk⟩ := hd
    exact ⟨hek, hdk.set (by omega) ((hek.getElem (by omega) (by omega)).trans (dkOf_last l.key).symm)⟩
  | k3Next h hr =>
    simp only [kseCtl, h, Bool.and_eq_true, decide_eq_true_eq] at hc
    simp only [kseData, h, roundIndex_toNat_add_one (show a.r.toNat < 15 by omega)] at hd ⊢
    exact hd
  | k3Last h hr =>
    simp only [kseData, h, hr] at hd
    exact hd

/-! ## SEE-A (R157) -/

/-- A row of SEE-A keeps its loop invariant. -/
theorem SeeA.Row.data {l : OperandLatch} {a b : SeeA} (h : SeeA.Row l a b) (hc : seeACtl a = true)
    (hd : seeAData l a = true) : seeAData l b = true := by
  cases h with
  | a0 h => simp [seeAData, chain]
  | a1Done h hi => simpa [seeAData, h, hi] using hd
  | a1More h hi => simpa only [seeAData, h] using hd
  | a2 h =>
    simp only [seeAData, h, Bool.and_eq_true, decide_eq_true_eq, beq_iff_eq] at hd ⊢
    obtain ⟨hle, hs⟩ := hd
    exact ⟨hle, congrArg (xor128 · _) hs⟩
  | a3 h hr =>
    simp only [seeACtl, h, Bool.and_eq_true, decide_eq_true_eq] at hc
    obtain ⟨⟨-, h1⟩, -⟩ := hc
    obtain ⟨q, hq⟩ := Nat.exists_eq_add_of_le' h1
    simp only [seeAData, h, hq, Nat.add_sub_cancel, Bool.and_eq_true, decide_eq_true_eq, beq_iff_eq] at hd ⊢
    obtain ⟨hle, hs⟩ := hd
    exact ⟨hle, congrArg (aesRound · _) hs⟩
  | a4Next h hr =>
    simp only [seeACtl, h, Bool.and_eq_true, decide_eq_true_eq] at hc
    simpa only [seeAData, h, roundIndex_toNat_add_one (show a.r.toNat < 15 by omega), Nat.add_sub_cancel] using hd
  | a4Last h hr =>
    simp only [seeAData, h, hr] at hd
    exact hd
  | a5 h =>
    simp only [seeAData, h, Bool.and_eq_true, decide_eq_true_eq, beq_iff_eq] at hd ⊢
    obtain ⟨hle, hs⟩ := hd
    exact ⟨hle, congrArg (aesFinalRound · _) hs⟩
  | a6 h =>
    simp only [seeACtl, h, bne_iff_ne] at hc
    simp only [seeAData, h, Bool.and_eq_true, decide_eq_true_eq, beq_iff_eq] at hd ⊢
    obtain ⟨hle, hs⟩ := hd
    have hcount : l.n - (a.i - 1) = l.n - a.i + 1 := by omega
    refine ⟨by omega, ?_⟩
    rw [hcount, chain, hs]

/-! ## SEE-N (R177) -/

theorem keysLoaded_iff (l : OperandLatch) (a : SeeN) :
    keysLoaded l a = true ↔
      (∀ j : Fin 9, a.v[j.val + 1] = entry l.rk (j.val + 1)) ∧ a.v[10] = combinedKey l.rk ∧
        a.v[11] = entry l.rk 0 := by
  have hsome {j : Nat} (hj : j < 9) (x : V128) : a.v[j + 1]? = some x ↔ a.v[j + 1] = x := by
    rw [Vector.getElem?_eq_getElem (by omega), Option.some_inj]
  simp only [keysLoaded, Bool.and_eq_true, List.all_eq_true, List.mem_range, beq_iff_eq, and_assoc]
  exact and_congr_left' ⟨fun h j => (hsome j.isLt _).1 (h j j.isLt), fun h j hj => (hsome hj _).2 (h ⟨j, hj⟩)⟩

/-- The round keys stay loaded while `V[0]`, `N.C` and the position change (R177). -/
theorem keysLoaded_set {l : OperandLatch} {a : SeeN} (h : keysLoaded l a = true) (x : V128) (c : Nat) (p : SeeNPos) :
    keysLoaded l { v := a.v.set 0 x, c := c, pos := p } = true := by
  simpa [keysLoaded_iff, Vector.getElem_set] using h

/-- What the loop invariant says at the step after N3.(j+1). -/
theorem seeNData_afterRound (l : OperandLatch) (v : Vector V128 12) (c : Nat) (j : Fin 9) :
    seeNData l { v := v, c := c, pos := afterRound j } =
      (keysLoaded l { v := v, c := c, pos := afterRound j } && c ≤ l.n &&
        v[0] == encRounds l.rk (chain l.rk l.block (l.n - c)) (j.val + 1)) := by
  unfold afterRound
  split
  · rfl
  · next hj => rw [show j.val = 8 by omega]; rfl

/-- A row of SEE-N keeps its loop invariant. -/
theorem SeeN.Row.data {l : OperandLatch} {a b : SeeN} (h : SeeN.Row l a b) (hc : seeNCtl a = true)
    (hd : seeNData l a = true) : seeNData l b = true := by
  cases h with
  | n0 h => exact (keysLoaded_iff _ _).2 ⟨nativeRegs_roundKey l.rk _, rfl, rfl⟩
  | n1 h =>
    simp only [seeNData, h, Bool.and_eq_true, beq_self_eq_true, and_true] at hd ⊢
    exact hd
  | n2 h =>
    simp only [seeNData, h, Bool.and_eq_true, decide_eq_true_eq, beq_iff_eq] at hd ⊢
    obtain ⟨hk, hn⟩ := hd
    obtain ⟨-, -, h11⟩ := (keysLoaded_iff l a).1 hk
    refine ⟨⟨keysLoaded_set hk _ _ _, hn.le⟩, ?_⟩
    rw [Vector.getElem_set_self, h11, hn, Nat.sub_self, chain]
  | ntDone h hc =>
    simp only [seeNData, h, hc, Nat.sub_zero, Bool.and_eq_true, beq_iff_eq] at hd ⊢
    obtain ⟨⟨hk, -⟩, hv⟩ := hd
    exact ⟨hk, hv⟩
  | ntMore h hc =>
    simp only [seeNData, h] at hd
    exact hd
  | n3 j h =>
    simp only [seeNData_afterRound]
    simp only [seeNData, h, Bool.and_eq_true, decide_eq_true_eq, beq_iff_eq] at hd ⊢
    obtain ⟨⟨hk, hn⟩, hv⟩ := hd
    obtain ⟨hround, -, -⟩ := (keysLoaded_iff l a).1 hk
    refine ⟨⟨keysLoaded_set hk _ _ _, hn⟩, ?_⟩
    rw [Vector.getElem_set_self, hv, hround j, encRounds]
  | n4 h =>
    simp only [seeNData, h, Bool.and_eq_true, decide_eq_true_eq, beq_iff_eq] at hd ⊢
    obtain ⟨⟨hk, hn⟩, hv⟩ := hd
    obtain ⟨-, h10, -⟩ := (keysLoaded_iff l a).1 hk
    refine ⟨⟨keysLoaded_set hk _ _ _, hn⟩, ?_⟩
    rw [Vector.getElem_set_self, hv, h10, aesFinalRound_combinedKey, encRounds]
  | n5 h =>
    simp only [seeNCtl, h, bne_iff_ne] at hc
    simp only [seeNData, h, Bool.and_eq_true, decide_eq_true_eq, beq_iff_eq] at hd ⊢
    obtain ⟨⟨hk, hn⟩, hv⟩ := hd
    have hcount : l.n - (a.c - 1) = l.n - a.c + 1 := by omega
    refine ⟨⟨hk, by omega⟩, ?_⟩
    rw [hcount, chain, hv]
  | n6 h =>
    simp only [seeNData, h, Bool.and_eq_true, beq_iff_eq] at hd ⊢
    obtain ⟨hk, hv⟩ := hd
    obtain ⟨-, -, h11⟩ := (keysLoaded_iff l a).1 hk
    refine ⟨keysLoaded_set hk _ _ _, ?_⟩
    rw [Vector.getElem_set_self, hv, h11, xor128_xor128_cancel]

/-! ## CHECK in Q0: an engine and the output register it is copied to (R193) -/

/-- SEE-A in Q0 with its output register: its loop invariant, and CHAIN in the register once it has ended. -/
def SeeA.checkData (l : OperandLatch) (x : SeeA × V128) : Prop :=
  seeAData l x.1 = true ∧ (x.1.pos = .idle → x.2 = chain l.rk l.block l.n)

/-- SEE-N in Q0 with its output register: its loop invariant, and CHAIN in the register once it has ended. -/
def SeeN.checkData (l : OperandLatch) (y : SeeN × V128) : Prop :=
  seeNData l y.1 = true ∧ (y.1.pos = .idle → y.2 = chain l.rk l.block l.n)

theorem SeeA.CheckRow.data {l : OperandLatch} {x x' : SeeA × V128} (h : SeeA.CheckRow l x x')
    (hc : seeACtl x.1 = true) (hd : SeeA.checkData l x) : SeeA.checkData l x' := by
  obtain ⟨hd, -⟩ := hd
  cases h with
  | row o h =>
    obtain ⟨-, -, hrun⟩ := h.running
    exact ⟨h.data hc hd, fun hi => absurd hi hrun⟩
  | copy o h =>
    simp only [seeAData, h, beq_iff_eq] at hd
    exact ⟨rfl, fun _ => hd⟩

theorem SeeN.CheckRow.data {l : OperandLatch} {y y' : SeeN × V128} (h : SeeN.CheckRow l y y')
    (hc : seeNCtl y.1 = true) (hd : SeeN.checkData l y) : SeeN.checkData l y' := by
  obtain ⟨hd, -⟩ := hd
  cases h with
  | row o h =>
    obtain ⟨-, -, hrun⟩ := h.running
    exact ⟨h.data hc hd, fun hi => absurd hi hrun⟩
  | copy o h =>
    simp only [seeNData, h, Bool.and_eq_true, beq_iff_eq] at hd
    obtain ⟨-, hv⟩ := hd
    exact ⟨rfl, fun _ => hv⟩

/-! ## The invariant, mode by mode -/

theorem correct_iff (s : State) :
    Correct s ↔ CtlInv s ∧ s.mode ≠ .fatal ∧ kseData s.opr s.kse = true ∧ seeAData s.opr s.seeA = true ∧
      seeNData s.opr s.seeN = true ∧ eqoData s = true := by
  simp only [Correct, Bool.and_eq_true, and_assoc]

theorem kseData_of_idle (l : OperandLatch) {a : Kse} (h : a.pos = .idle) : kseData l a = true := by simp [kseData, h]
theorem seeAData_of_idle (l : OperandLatch) {a : SeeA} (h : a.pos = .idle) : seeAData l a = true := by
  simp [seeAData, h]
theorem seeNData_of_idle (l : OperandLatch) {a : SeeN} (h : a.pos = .idle) : seeNData l a = true := by
  simp [seeNData, h]
theorem eqoData_of_idle {s : State} (h : s.eqo.pos = .idle) : eqoData s = true := by simp [eqoData, h]

/-- In Q0 the output register of each engine that has ended holds CHAIN. -/
theorem eqoData_iff_of_q0 {s : State} (hq : s.eqo.pos = .q0) :
    eqoData s = true ↔
      (s.seeA.pos = .idle → s.eqo.oa = chain s.opr.rk s.opr.block s.opr.n) ∧
      (s.seeN.pos = .idle → s.eqo.on = chain s.opr.rk s.opr.block s.opr.n) := by
  simp only [eqoData, hq, Bool.and_eq_true, Bool.or_eq_true, bne_iff_ne, beq_iff_eq, ne_eq, ← imp_iff_not_or]

/-- After Q0 both output registers hold CHAIN, and Q4 is not reached. -/
theorem eqoData_iff_of_compare {s : State} (hq : s.eqo.pos ≠ .q0) (hi : s.eqo.pos ≠ .idle) :
    eqoData s = true ↔
      s.eqo.pos ≠ .q4 ∧ s.eqo.oa = chain s.opr.rk s.opr.block s.opr.n ∧
        s.eqo.on = chain s.opr.rk s.opr.block s.opr.n := by
  cases hp : s.eqo.pos <;> simp_all [eqoData]

/-- With every sequencer at rest there is nothing to say of the registers. -/
theorem correct_of_ready {s : State} (hm : s.mode = .ready) (h : CtlInv s) : Correct s := by
  obtain ⟨hk, ha, hn, hq, -, -⟩ := (ctlInv_iff_of_ready hm).1 h
  exact (correct_iff s).2 ⟨h, by simp [hm], kseData_of_idle _ hk, seeAData_of_idle _ ha, seeNData_of_idle _ hn,
    eqoData_of_idle hq⟩

theorem eqoData_inQ0 {s : State} (turns : List Engine) {x : SeeA × V128} {y : SeeN × V128}
    (hx : SeeA.checkData s.opr x) (hy : SeeN.checkData s.opr y) : eqoData (s.inQ0 turns x y) = true := by
  by_cases hi : x.1.pos = .idle ∧ y.1.pos = .idle
  · have hp : (s.inQ0 turns x y).eqo.pos = .q1 := if_pos hi
    rw [eqoData_iff_of_compare (by simp [hp]) (by simp [hp])]
    exact ⟨by simp [hp], hx.2 hi.1, hy.2 hi.2⟩
  · have hp : (s.inQ0 turns x y).eqo.pos = .q0 := if_neg hi
    exact (eqoData_iff_of_q0 hp).2 ⟨hx.2, hy.2⟩

/-! ## Every sequencer step keeps the invariant -/

/-- Under the control invariant, a step in Q0 is a step of one of the two engines. -/
theorem tick_q0_cases {s t : State} (hm : s.mode = .busy) (hop : opOfCode s.opr.op = .check) (hq : s.eqo.pos = .q0)
    (h : CtlInv s) (ht : tick s = .next t) :
    (∃ x, SeeA.CheckRow s.opr (s.seeA, s.eqo.oa) x ∧ t = s.inQ0 s.turns.tail x (s.seeN, s.eqo.on)) ∨
    (∃ y, SeeN.CheckRow s.opr (s.seeN, s.eqo.on) y ∧ t = s.inQ0 s.turns.tail (s.seeA, s.eqo.oa) y) := by
  obtain ⟨ha, -, hi, -⟩ := (ctlInv_iff_of_q0 hm hop hq).1 h
  have hself := State.inQ0_self hq hi
  cases he : engineToStep s with
  | seeA =>
    obtain ⟨x, hx⟩ := SeeA.exists_checkRow s.opr s.eqo.oa ha (seeA_running_of_engineToStep he)
    have hstep := tick_inQ0_seeA hop (hself.symm ▸ he) hx
    rw [hself, ht] at hstep
    cases hstep
    exact .inl ⟨x, hx, rfl⟩
  | seeN =>
    have hni : s.seeN.pos ≠ .idle := by
      by_cases hai : s.seeA.pos = .idle
      · exact hi.resolve_left (not_not_intro hai)
      · exact seeN_running_of_engineToStep he hai
    obtain ⟨y, hy⟩ := SeeN.exists_checkRow s.opr s.eqo.on hni
    have hstep := tick_inQ0_seeN hop (hself.symm ▸ he) hy
    rw [hself, ht] at hstep
    cases hstep
    exact .inr ⟨y, hy, rfl⟩

/-- Q0, and Q1 once both engines have ended, satisfy the invariant as long as the engines do. -/
theorem correct_inQ0 {s : State} {turns : List Engine} {x : SeeA × V128} {y : SeeN × V128} (hm : s.mode = .busy)
    (h : CtlInv (s.inQ0 turns x y)) (hk : kseData s.opr s.kse = true) (hx : SeeA.checkData s.opr x)
    (hy : SeeN.checkData s.opr y) : Correct (s.inQ0 turns x y) := by
  have hf : (s.inQ0 turns x y).mode ≠ .fatal := by simp [State.inQ0, hm]
  exact (correct_iff _).2 ⟨h, hf, hk, hx.1, hy.1, eqoData_inQ0 turns hx hy⟩

theorem tick_correct_q0 {s t : State} (hm : s.mode = .busy) (hop : opOfCode s.opr.op = .check) (hq : s.eqo.pos = .q0)
    (h : Correct s) (ht : tick s = .next t) (hinv : CtlInv t) : Correct t := by
  obtain ⟨hctl, -, hkd, had, hnd, hqd⟩ := (correct_iff s).1 h
  obtain ⟨ha, hn, -⟩ := (ctlInv_iff_of_q0 hm hop hq).1 hctl
  obtain ⟨hoa, hon⟩ := (eqoData_iff_of_q0 hq).1 hqd
  rcases tick_q0_cases hm hop hq hctl ht with ⟨x, hx, rfl⟩ | ⟨y, hy, rfl⟩
  · exact correct_inQ0 hm hinv hkd (hx.data ha ⟨had, hoa⟩) ⟨hnd, hon⟩
  · exact correct_inQ0 hm hinv hkd ⟨had, hoa⟩ (hy.data hn ⟨hnd, hon⟩)

/-- The two outputs are both CHAIN, so Q2 finds the flag set and Q4 is not reached (R193). -/
theorem tick_correct_compare {s t : State} (hm : s.mode = .busy) (hop : opOfCode s.opr.op = .check)
    (hq : s.eqo.pos ≠ .q0) (hi : s.eqo.pos ≠ .idle) (h : Correct s) (ht : tick s = .next t) (hinv : CtlInv t) :
    Correct t := by
  obtain ⟨hctl, hf, hkd, had, hnd, hqd⟩ := (correct_iff s).1 h
  obtain ⟨he, -⟩ := (ctlInv_iff_of_compare hm hop hq hi).1 hctl
  obtain ⟨h4, hoa, hon⟩ := (eqoData_iff_of_compare hq hi).1 hqd
  cases hp : s.eqo.pos with
  | idle => exact absurd hp hi
  | q0 => exact absurd hp hq
  | q1 =>
    rw [tick_q1 hop hp] at ht
    cases ht
    exact (correct_iff _).2 ⟨hinv, hf, hkd, had, hnd, by simp [eqoData, hoa, hon]⟩
  | q2 =>
    have hmatch : s.eqo.matched = true := by simpa [eqoCtl, hp, matchFlag, hoa, hon] using he
    rw [tick_q2_of_matched hop hp hmatch] at ht
    cases ht
    exact (correct_iff _).2 ⟨hinv, hf, hkd, had, hnd, by simp [eqoData, hoa, hon]⟩
  | q3 =>
    rw [tick_q3 hop hp] at ht
    cases ht
    exact correct_of_ready rfl hinv
  | q4 => exact absurd hp h4

/-- A sequencer step of the operation in progress keeps the invariant, unit by unit. -/
theorem tick_correct {s t : State} (hm : s.mode = .busy) (h : Correct s) (ht : tick s = .next t) (hinv : CtlInv t) :
    Correct t := by
  obtain ⟨hctl, hf, hkd, had, hnd, hqd⟩ := (correct_iff s).1 h
  cases hop : opOfCode s.opr.op with
  | expand =>
    obtain ⟨hk, hi, -⟩ := (ctlInv_iff_of_expand hm hop).1 hctl
    rw [tick_of_expand hop] at ht
    by_cases h4 : s.kse.pos = .k4
    · rw [kseStep, h4] at ht
      cases ht
      exact correct_of_ready rfl hinv
    · obtain ⟨b, hb, rfl⟩ := (kseStep_eq_next_iff hi h4).1 ht
      exact (correct_iff _).2 ⟨hinv, hf, hb.data hk hkd, had, hnd, hqd⟩
  | chainA =>
    obtain ⟨ha, hi, -, -, hq, -⟩ := (ctlInv_iff_of_chainA hm hop).1 hctl
    rw [tick_of_chainA hop] at ht
    by_cases h7 : s.seeA.pos = .a7
    · rw [seeAStep, h7] at ht
      cases ht
      exact correct_of_ready rfl hinv
    · obtain ⟨b, hb, rfl⟩ := (seeAStep_eq_next_iff hi h7).1 ht
      exact (correct_iff _).2 ⟨hinv, hf, hkd, hb.data ha had, hnd, eqoData_of_idle hq⟩
  | chainN =>
    obtain ⟨hn, hi, -, -, hq, -⟩ := (ctlInv_iff_of_chainN hm hop).1 hctl
    rw [tick_of_chainN hop] at ht
    by_cases h7 : s.seeN.pos = .n7
    · rw [seeNStep, h7] at ht
      cases ht
      exact correct_of_ready rfl hinv
    · obtain ⟨b, hb, rfl⟩ := (seeNStep_eq_next_iff hi h7).1 ht
      exact (correct_iff _).2 ⟨hinv, hf, hkd, had, hb.data hn hnd, eqoData_of_idle hq⟩
  | check =>
    by_cases hq : s.eqo.pos = .q0
    · exact tick_correct_q0 hm hop hq h ht hinv
    · refine tick_correct_compare hm hop hq (fun hi => ?_) h ht hinv
      simp [ctlInv_iff_of_busy hm, positionsCtl, hm, hop, hi] at hctl

/-! ## Every event keeps the invariant -/

/-- Acceptance puts the sequencers it starts at steps of which nothing is said yet. -/
theorem accepted_correct (p : Request) {s : State} (hm : s.mode = .ready) (h : CtlInv s) : Correct (accepted p s) := by
  obtain ⟨hk, ha, hn, hq, -, -⟩ := (ctlInv_iff_of_ready hm).1 h
  have hinv := accepted_ctlInv p hm h
  have hmode : (accepted p s).mode ≠ .fatal := by simp [accepted_mode]
  refine (correct_iff _).2 ⟨hinv, hmode, ?_⟩
  unfold accepted
  cases opOfCode p.op with
  | expand => exact ⟨rfl, seeAData_of_idle _ ha, seeNData_of_idle _ hn, eqoData_of_idle hq⟩
  | chainA => exact ⟨kseData_of_idle _ hk, rfl, seeNData_of_idle _ hn, eqoData_of_idle hq⟩
  | chainN => exact ⟨kseData_of_idle _ hk, seeAData_of_idle _ ha, rfl, eqoData_of_idle hq⟩
  | check => exact ⟨kseData_of_idle _ hk, rfl, rfl, rfl⟩

/-- The step lemma of the invariant. -/
theorem step_correct {s t : State} (h : Correct s) (ht : step s = .next t) : Correct t := by
  have hd : Correct (dropEvent s) := h
  obtain ⟨hctl, hf, -⟩ := h
  obtain ⟨u, hu, hinv⟩ := step_ctlInv hctl
  cases hu.symm.trans ht
  cases hm : s.mode with
  | ready =>
    rw [step_of_ready hm] at ht
    cases he : nextEvent s with
    | idle => rw [he] at ht; cases ht; exact correct_of_ready hm hinv
    | reset => rw [he] at ht; cases ht; exact correct_of_ready rfl hinv
    | present p => rw [he, readyStep_present] at ht; cases ht; exact accepted_correct p hm hctl
    | call l =>
      rw [he, readyStep_call (s := dropEvent s) hm] at ht
      cases ht
      exact correct_of_ready (opDone_mode (decode_isMicro l) _) hinv
  | busy =>
    by_cases he : nextEvent s = .reset
    · rw [step_of_busy hm, he] at ht; cases ht; exact correct_of_ready rfl hinv
    · rw [step_of_busy_of_ne_reset hm he] at ht
      exact tick_correct (s := dropEvent s) hm hd ht hinv
  | fatal => exact absurd hm hf

/-- Settles O4: the step lemma of `Correct`. -/
theorem stepKeepsLoopInvariants : Obligations.StepKeepsLoopInvariants := fun _ _ h ht => step_correct h ht

end Sys2Proof.Machine
end

section
/-!
PROOFS. SEE-A as the requester and as the step table see it: O22, O25, O26, O49, O53 (`42_engine_accelerated.md` rules
R151 to R156).
-/

namespace Sys2Proof.Machine

/-! ## CHAIN_A as the requester sees it (R151 to R154) -/

/-- Settles O22: the state CHAIN_A ends in, field by field. -/
theorem chainAComputesChain : Obligations.ChainAComputesChain := fun k b n _ hm =>
  ⟨_, exec_chainA_of_ready hm k b n, rfl, rfl, rfl, rfl, rfl, rfl, rfl, rfl, rfl⟩

/-- Settles O25: a chain of no iteration is the block itself. -/
theorem zeroIterationsReturnTheBlock : Obligations.ZeroIterationsReturnTheBlock := fun k b _ hm =>
  ⟨⟨_, exec_chainA_of_ready hm k b 0, rfl, rfl⟩, ⟨_, exec_chainN_of_ready hm k b 0, rfl⟩⟩

/-- A chain continued from where another has ended is one longer chain (R154). -/
theorem chain_chain (k : Sched) (b : V128) (m n : Nat) : chain k (chain k b m) n = chain k b (m + n) := by
  induction n with
  | zero => rfl
  | succ n ih => exact congrArg (enc k) ih

/-- Settles O26: both engines answer `chain`, and `chain_chain` composes it. -/
theorem chainingIsMonotonic : Obligations.ChainingIsMonotonic := by
  intro k b m n s hm
  have ht : (chainADone k b m s).mode = .ready := rfl
  exact ⟨_, _, _, _, exec_chainA_of_ready hm k b m, exec_chainN_of_ready ht k _ n, exec_chainA_of_ready ht k _ n,
    exec_chainN_of_ready hm k b (m + n), chain_chain k b m n, chain_chain k b m n⟩

/-! ## Loop control and the step table (R155, R156) -/

/-- Settles O49: the branches of SEEA.LOOP, and the count that is held at zero. -/
theorem seeALoopCountsIterationsAndRounds : Obligations.SeeALoopCountsIterationsAndRounds := fun s =>
  ⟨fun h => if_pos h, fun h => if_neg h, fun h => if_pos h, fun h => if_neg h, ⟨_, rfl, rfl, countDown_eq s.seeA.i⟩⟩

/-- Settles O53: the rows that move data by `seeAStep_of_row`, whose result is what the row's instruction answers; the
rows of loop control are SEEA.LOOP itself. -/
theorem seeAFollowsItsStepTable : Obligations.SeeAFollowsItsStepTable := by
  intro s
  refine ⟨fun h => tick_of_chainA (by rw [h]; rfl), fun h => ?_, fun h => ?_, fun h => ?_, fun r h hr => ?_,
    fun h => ?_, fun h => ?_, fun h => ?_, fun h => ?_⟩
  · exact seeAStep_of_row (.a0 h)
  · rw [seeAStep, h]; rfl
  · exact seeAStep_of_row (.a2 h)
  · rw [seeAStep_of_row (.a3 h (hr ▸ r.isLt)), hr, ← memRead_eq_entry]
    rfl
  · rw [seeAStep, h]; rfl
  · exact seeAStep_of_row (.a5 h)
  · rw [seeAStep, h]; rfl
  · exact ⟨respondChainA s, by rw [seeAStep, h], rfl, rfl, rfl, rfl⟩

end Sys2Proof.Machine
end

section
/-!
PROOFS. SEE-N as the requester and as the step table see it: O23, O50, O54 (`43_engine_native.md` rules R171 to R178).
-/

namespace Sys2Proof.Machine

/-! ## CHAIN_N as the requester sees it (R171) -/

/-- Settles O23: the state CHAIN_N ends in, field by field. -/
theorem chainNComputesChain : Obligations.ChainNComputesChain := fun k b n _ hm =>
  ⟨_, exec_chainN_of_ready hm k b n, rfl, rfl, rfl, rfl, rfl, rfl, rfl, rfl, rfl⟩

/-! ## Loop control and the step table (R175, R176) -/

/-- Settles O50: the branches of SEEN.LOOP, and the count that is held at zero. -/
theorem seeNLoopIsACountedBranch : Obligations.SeeNLoopIsACountedBranch := fun s =>
  ⟨fun h => if_pos h, fun h => if_neg h, ⟨_, rfl, rfl, countDown_eq s.seeN.c⟩⟩

/-- The loads of N0 put round keys 1 to 9 in the vector registers of the same index (R170, R175). -/
theorem nativeRegs_getElem?_of_middle (k : Sched) (x : V128) {r : Nat} (h1 : 1 ≤ r) (h9 : r ≤ 9) :
    (nativeRegs k x)[r]? = some (entry k r) := by
  obtain ⟨j, rfl⟩ := Nat.exists_eq_add_of_le' h1
  exact Vector.getElem?_eq_some_iff.2 ⟨by omega, nativeRegs_roundKey k x ⟨j, by omega⟩⟩

/-- N3.(j+1) for the first eight rounds is followed by N3.(j+2). -/
theorem afterRound_castSucc (j : Fin 8) : afterRound j.castSucc = .n3 j.succ := dif_pos j.isLt

/-- Settles O54: the rows that move data by `seeNStep_of_row`, whose result is what the row's instruction answers; the
rows of loop control are SEEN.LOOP itself. -/
theorem seeNFollowsItsStepTable : Obligations.SeeNFollowsItsStepTable := by
  intro s
  refine ⟨fun h => tick_of_chainN (by rw [h]; rfl), fun h => ?_, fun h => ?_, fun h => ?_, fun h => ?_, fun j h => ?_,
    fun h => ?_, fun h => ?_, fun h => ?_, fun h => ?_, fun h => ?_⟩
  · exact ⟨_, seeNStep_of_row (.n0 h), rfl, rfl, rfl, fun r => nativeRegs_getElem?_of_middle s.opr.rk s.seeN.v[0], rfl⟩
  · exact seeNStep_of_row (.n1 h)
  · exact seeNStep_of_row (.n2 h)
  · rw [seeNStep, h]; rfl
  · rw [seeNStep_of_row (.n3 _ h), afterRound_castSucc]
    rfl
  · exact seeNStep_of_row (.n3 8 h)
  · exact seeNStep_of_row (.n4 h)
  · rw [seeNStep, h]; rfl
  · exact seeNStep_of_row (.n6 h)
  · exact ⟨respondChainN s, by rw [seeNStep, h], rfl, rfl, rfl, rfl⟩

end Sys2Proof.Machine
end

section
/-!
PROOFS. CHECK and EQO as the requester and as the step table see them, the functions of the oracle, and the model's own
fields: O24, O27, O28, O30, O55, O57, O58, O59 (`44_equivalence_oracle.md` rules R191 to R198).
-/

namespace Sys2Proof.Machine

/-! ## CHECK as the requester sees it (R191, R193, R196) -/

/-- Settles O24: the state CHECK ends in, field by field. -/
theorem checkAnswersOkWithBothBlocks : Obligations.CheckAnswersOkWithBothBlocks := fun k b n _ hm =>
  ⟨_, exec_check_of_ready hm k b n, rfl, rfl, rfl, rfl, rfl, rfl, rfl, rfl, rfl, rfl⟩

/-- Settles O27: each engine answers `chain`. -/
theorem bothEnginesAgree : Obligations.BothEnginesAgree := fun k b n _ _ hs hu =>
  ⟨_, _, exec_chainA_of_ready hs k b n, exec_chainN_of_ready hu k b n, rfl⟩

/-- The turns CHECK starts with show only in the turns it leaves (R196). -/
theorem checkDone_setTurns (k : Sched) (b : V128) (n : Nat) (s : State) (x z : List Engine) :
    (checkDone k b n (s.setTurns x)).setTurns z = (checkDone k b n s).setTurns z := rfl

/-- Settles O28: for any two lists of turns CHECK ends in the state it ends in for the list of `s`. -/
theorem engineInterleavingIsUnobservable : Obligations.EngineInterleavingIsUnobservable := fun k b n s x y hm =>
  ⟨_, _, exec_check_of_ready (s := s.setTurns x) hm k b n, exec_check_of_ready (s := s.setTurns y) hm k b n,
    (checkDone_setTurns k b n s x []).trans (checkDone_setTurns k b n s y []).symm⟩

/-! ## The model's own fields in the operations (R74, R195, R198, R248) -/

/-- What an operation or pseudo-operation leaves in the model's own fields, and that it has responded OK. -/
theorem opDone_ownFields {i : Instr} (hi : i.isMicro = false) (s : State) :
    (opDone i s).inputs = s.inputs ∧ (opDone i s).free = s.free + responsesOf i ∧
      (opDone i s).turns = s.turns.drop (turnsOf i) ∧ (opDone i s).last = .responded 0 := by
  cases i with
  | expand | chainA | chainN | check | potA | potN | potCheck => exact ⟨rfl, rfl, rfl, rfl⟩
  | _ => cases hi

/-- A run whose last request was an operation has ended well where no request is to come (R248). -/
theorem endedWell_opDone_iff {i : Instr} (hi : i.isMicro = false) (s : State) :
    EndedWell (opDone i s) ↔ requestsLeft s = false := by
  obtain ⟨hin, -, -, hlast⟩ := opDone_ownFields hi s
  simp [EndedWell, requestsLeft, opDone_mode hi, hlast, hin]

/-- Settles O30: the model's own fields in the state an operation ends in. -/
theorem operationsCountResponsesAndTurns : Obligations.OperationsCountResponsesAndTurns := by
  intro i s hi hm
  obtain ⟨hin, hfree, hturns, hlast⟩ := opDone_ownFields hi s
  exact ⟨_, exec_of_ready hi hm, hin, hfree, hturns, hlast, endedWell_opDone_iff hi s⟩

/-! ## The step table (R195) -/

/-- At A7 in Q0 SEE-A's output is copied, and EQO leaves Q0 where SEE-N has ended. -/
theorem tick_q0_copyA {s : State} (hop : opOfCode s.opr.op = .check) (hq : s.eqo.pos = .q0)
    (he : engineToStep s = .seeA) (h7 : s.seeA.pos = .a7) :
    tick s = .next (s.inQ0 s.turns.tail ({ s.seeA with pos := .idle }, s.seeA.s) (s.seeN, s.eqo.on)) := by
  have hself := State.inQ0_self hq (.inl (seeA_running_of_engineToStep he))
  have hstep := tick_inQ0_seeA hop (by rwa [hself]) (.copy s.eqo.oa h7)
  rwa [hself] at hstep

/-- At N7 in Q0 SEE-N's output is copied, and EQO leaves Q0 where SEE-A has ended. -/
theorem tick_q0_copyN {s : State} (hop : opOfCode s.opr.op = .check) (hq : s.eqo.pos = .q0)
    (he : engineToStep s = .seeN) (h7 : s.seeN.pos = .n7) :
    tick s = .next (s.inQ0 s.turns.tail (s.seeA, s.eqo.oa) ({ s.seeN with pos := .idle }, s.seeN.v[0])) := by
  have hself := State.inQ0_self hq (.inr (by simp [h7]))
  have hstep := tick_inQ0_seeN hop (by rwa [hself]) (.copy s.eqo.on h7)
  rwa [hself] at hstep

/-- Settles O55: the rows of Q0 by the engine that steps, the comparison as EQO.COMPARE itself, and the two ends by what
they respond. -/
theorem eqoFollowsItsStepTable : Obligations.EqoFollowsItsStepTable := by
  intro s hcode
  have hop : opOfCode s.opr.op = .check := by rw [hcode]; rfl
  refine ⟨fun hq he h7 => ?_, fun hq he h7 => ?_, fun hq he h7 => ?_, fun hq he h7 => ?_, fun hq => ?_, fun hq => ?_,
    fun hq => ?_, fun hq => ?_⟩
  · exact (tick_q0_seeA hop hq he).trans (seeAInCheck_of_ne h7)
  · exact (tick_q0_seeN hop hq he).trans (seeNInCheck_of_ne h7)
  · rw [tick_q0_copyA hop hq he h7, State.inQ0]
    simp only [true_and]
    rfl
  · rw [tick_q0_copyN hop hq he h7, State.inQ0]
    simp only [and_true]
    rfl
  · rw [tick_of_check hop, eqoStep, hq]; rfl
  · rw [tick_of_check hop, eqoStep, hq]; rfl
  · exact ⟨_, tick_q3 hop hq, rfl, rfl, rfl, rfl, rfl⟩
  · exact ⟨_, tick_q4 hop hq, rfl, rfl, rfl, rfl, rfl, rfl, rfl⟩

/-! ## Differing outputs (R211, R213) -/

/-- From Q1 with differing output blocks CHECK compares and raises EquivalenceMismatch in three steps (R195). -/
theorem runTicks_q1_of_ne {s : State} (hm : s.mode = .busy) (hop : opOfCode s.opr.op = .check)
    (hq : s.eqo.pos = .q1) (hne : s.eqo.oa ≠ s.eqo.on) :
    runTicks 3 s = .next (raiseMismatch s.eqo.oa s.eqo.on (diffIndex s.eqo.oa s.eqo.on)
      (s.setEqo { s.eqo with matched := false, diff := diffIndex s.eqo.oa s.eqo.on, pos := .q4 })) := by
  have hmatch : matchFlag s.eqo.oa s.eqo.on = false := beq_eq_false_iff_ne.2 hne
  have h1 := runTicks_succ_of_next (k := 0) rfl hm (tick_q1 hop hq)
  rw [hmatch] at h1
  have h2 := runTicks_succ_of_next h1 hm (tick_q2_of_not_matched hop rfl rfl)
  exact runTicks_succ_of_next h2 hm (tick_q4 hop rfl)

/-- Settles O57: with no event to come the machine runs the three steps of EQO, and the index is `diffIndex`. -/
theorem differingOutputsEndInFatal : Obligations.DifferingOutputsEndInFatal := by
  intro s hm hcode hq hin hne
  have hop : opOfCode s.opr.op = .check := by rw [hcode]; rfl
  obtain ⟨hdiff, hleast⟩ := diffIndex_spec hne
  exact ⟨_, (run_eq_runTicks hin 3).trans (runTicks_q1_of_ne hm hop hq hne), rfl, rfl, rfl, rfl, rfl, hdiff, hleast,
    rfl, rfl, rfl, nofun⟩

/-! ## The oracle over any pair of engine functions (R191, R194) -/

/-- No byte of a block differs from itself. -/
theorem leastDiff_self (a : V128) : leastDiff a a = none := by simp [leastDiff]

section Oracle
variable {f g : Sched → V128 → Nat → V128} {k : Sched} {b : V128} {n : Nat}

theorem oracle_of_eq (h : f k b n = g k b n) : oracle f g k b n = .ok (f k b n) (g k b n) := by
  rw [oracle, h, leastDiff_self]

theorem oracle_of_ne (h : f k b n ≠ g k b n) :
    ∃ i, i < 16 ∧ oracle f g k b n = .mismatch (f k b n) (g k b n) i ∧
      byte (f k b n) i ≠ byte (g k b n) i ∧ ∀ j, j < i → byte (f k b n) j = byte (g k b n) j := by
  obtain ⟨i, hi⟩ := exists_leastDiff h
  obtain ⟨h16, hspec⟩ := leastDiff_eq_some hi
  exact ⟨i, h16, by rw [oracle, hi], hspec⟩

end Oracle

/-- Settles O58: the verdict by whether the two blocks are equal. -/
theorem oracleReportsTheLeastDifference : Obligations.OracleReportsTheLeastDifference := fun _ _ _ _ _ =>
  ⟨oracle_of_eq, oracle_of_ne⟩

/-! ## The two engine functions of the spec, and a defective one (R171, R193, T52) -/

/-- A pass of the native loop takes the whitened block to the whitened block of the next iteration (R170). -/
theorem native_pass (k : Sched) (c : V128) :
    aesFinalRound (nativeRounds k (encRounds k c 0)) (combinedKey k) = encRounds k (enc k c) 0 :=
  aesFinalRound_combinedKey k c

/-- The native loop, entered with the whitened block, leaves the chain under the whitening (R177). -/
theorem nativeLoop_eq (k : Sched) (b : V128) (n : Nat) :
    nativeLoop k n (xor128 b (entry k 0)) = xor128 (chain k b n) (entry k 0) := by
  change nativeLoop k n (encRounds k b 0) = encRounds k (chain k b n) 0
  induction n generalizing b with
  | zero => rfl
  | succ n ih =>
    calc nativeLoop k (n + 1) (encRounds k b 0)
      _ = nativeLoop k n (encRounds k (enc k b) 0) := by rw [nativeLoop, native_pass]
      _ = encRounds k (chain k (chain k b 1) n) 0 := ih (enc k b)
      _ = encRounds k (chain k b (n + 1)) 0 := by rw [chain_chain, Nat.add_comm]

/-- The native path's pseudocode computes CHAIN (R178, R193). -/
theorem chainNative_eq_chain (k : Sched) (b : V128) (n : Nat) : chainNative k b n = chain k b n := by
  rw [chainNative, nativeLoop_eq, xor128_xor128_cancel]

/-- XOR128 with a value other than zero changes the block (R108). -/
theorem xor128_ne_self {a : V128} (h : a ≠ 0) (c : V128) : xor128 c a ≠ c := by simpa [xor128] using h

/-- Settles O59: the native pseudocode is CHAIN, and without un-whitening it is CHAIN under round key 0. -/
theorem oracleCatchesAnOmittedUnwhitening : Obligations.OracleCatchesAnOmittedUnwhitening := by
  intro k b n
  refine ⟨oracle_of_eq (chainNative_eq_chain k b n).symm, fun hk => ?_⟩
  have hloop := nativeLoop_eq k b n
  obtain ⟨i, h16, hi, -⟩ := oracle_of_ne (f := chain) (g := fun k b n => nativeLoop k n (xor128 b (entry k 0)))
    (k := k) (b := b) (n := n) (by rw [hloop]; exact (xor128_ne_self hk _).symm)
  exact ⟨i, h16, by rw [hi, hloop]⟩

end Sys2Proof.Machine
end

section
/-!
PROOFS. The capability check and EquivalenceMismatch: O31, O56 (`60_exceptions.md` rules R213, R216).
-/

namespace Sys2Proof.Machine

/-! ## The capability `HAS_AES_ACCEL` (R216) -/

section Capability
variable {cfg : Config}

theorem requireAccel_of_absent (h : cfg.hasAesAccel = false) (s : State) :
    requireAccel cfg s = .refused .capabilityAbsent := by
  rcases requireAccel_cases cfg s with ⟨hp, -⟩ | ⟨-, hr⟩
  · exact absurd (hp.symm.trans h) nofun
  · exact hr

/-- No other part of the configuration, `CNT_W` included, enters the check (R8). -/
theorem requireAccel_eq_hardware (h : cfg.hasAesAccel = true) : requireAccel cfg = requireAccel Config.hardware := by
  funext s
  rcases requireAccel_cases cfg s with ⟨-, hn⟩ | ⟨ha, -⟩
  · exact hn.trans (requireAccel_hardware s).symm
  · exact absurd (h.symm.trans ha) nofun

/-- A request in READY whose accept event asks for the capability, whatever the event then writes, is refused as a
whole where the capability is absent. -/
theorem transact_of_absent (h : cfg.hasAesAccel = false) (accept : State → Result) (k : Nat) {s : State}
    (hm : s.mode = .ready) :
    transact (fun u => andThen (requireAccel cfg u) accept) k s = .refused .capabilityAbsent := by
  rw [transact, if_pos hm, requireAccel_of_absent h]
  rfl

/-- Such a request does on any configuration with the capability what it does on this hardware. -/
theorem transact_eq_hardware (h : cfg.hasAesAccel = true) (accept : State → Result) (k : Nat) (s : State) :
    transact (fun u => andThen (requireAccel cfg u) accept) k s =
      transact (fun u => andThen (requireAccel Config.hardware u) accept) k s := by
  rw [requireAccel_eq_hardware h]

end Capability

/-- Settles O31: the accept events of the three engine operations ask for the capability first, EXPAND's does not. -/
theorem enginesAreRefusedWithoutCapability : Obligations.EnginesAreRefusedWithoutCapability := by
  refine ⟨fun cfg k b n s h hm => ⟨?_, ?_, ?_⟩, rfl, by decide, fun cfg k b n s h => ⟨?_, ?_, ?_⟩, fun key s hm => ?_⟩
  · exact transact_of_absent h _ (chainATicks n) hm
  · exact transact_of_absent h _ (chainNTicks n) hm
  · exact transact_of_absent h _ (checkTicks n) hm
  · exact transact_eq_hardware h _ (chainATicks n) s
  · exact transact_eq_hardware h _ (chainNTicks n) s
  · exact transact_eq_hardware h _ (checkTicks n) s
  · exact ⟨_, exec_expand_of_ready hm key, rfl⟩

/-! ## EquivalenceMismatch (R213) -/

/-- At Q4 any event but reset is used up and the exception is raised, as one step (R195, R213). -/
theorem step_q4 {s : State} (hm : s.mode = .busy) (hop : opOfCode s.opr.op = .check) (hq : s.eqo.pos = .q4)
    (he : nextEvent s ≠ .reset) :
    step s = .next (raiseMismatch s.eqo.oa s.eqo.on s.eqo.diff (dropEvent s)) :=
  (step_of_busy_of_ne_reset hm he).trans (tick_q4 (s := dropEvent s) hop hq)

/-- Settles O56: the state that raising the exception leaves, field by field. -/
theorem mismatchEntersFatalWithTheRecord : Obligations.MismatchEntersFatalWithTheRecord := by
  intro s hm hcode hq he
  have hop : opOfCode s.opr.op = .check := by rw [hcode]; rfl
  exact ⟨_, step_q4 hm hop hq he, rfl, rfl, rfl, rfl, rfl, rfl, rfl, rfl, rfl, rfl, rfl, rfl, rfl⟩

end Sys2Proof.Machine
end

section
/-!
PROOFS. Reset, and how long a request runs: O1, O2, O19 (`70_reset_and_hazards.md` rules R240, R248, R251).
-/

namespace Sys2Proof.Machine

/-! ## A request is busy until its last sequencer step (R136, R157, R178, R198) -/

/-- From Q1, whatever the outputs, CHECK is still BUSY after the two steps of the comparison (R195). -/
theorem runTicks_q1_busy {s : State} (hm : s.mode = .busy) (hop : opOfCode s.opr.op = .check)
    (hq : s.eqo.pos = .q1) : ∃ t, runTicks 2 s = .next t ∧ t.mode = .busy := by
  have h1 := runTicks_succ_of_next (k := 0) rfl hm (tick_q1 hop hq)
  cases hf : matchFlag s.eqo.oa s.eqo.on with
  | true => exact ⟨_, runTicks_succ_of_next h1 hm (tick_q2_of_matched hop rfl hf), hm⟩
  | false => exact ⟨_, runTicks_succ_of_next h1 hm (tick_q2_of_not_matched hop rfl hf), hm⟩

/-- Both engines of CHECK have ended after `9 + 34n` steps of Q0, and the comparison begins (R198). -/
theorem runTicks_acceptCheck_q1 (k : Sched) (b : V128) (n : Nat) (s : State) :
    ∃ t, runTicks (9 + 34 * n) (acceptCheck k b n s) = .next t ∧ t.mode = .busy ∧
      opOfCode t.opr.op = .check ∧ t.eqo.pos = .q1 := by
  have hlen : 9 + 34 * n = 3 + 22 * (acceptCheck k b n s).opr.n + (6 + 12 * (acceptCheck k b n s).opr.n) := by
    change 9 + 34 * n = 3 + 22 * n + (6 + 12 * n)
    omega
  rw [hlen]
  exact ⟨_, runTicks_inQ0 (s := acceptCheck k b n s) rfl rfl
    (SeeA.runs_check (acceptCheck k b n s).opr s.seeA s.eqo.oa)
    (SeeN.runs_check (acceptCheck k b n s).opr s.seeN s.eqo.on) rfl rfl s.turns, rfl, rfl, rfl⟩

/-- One step short of its step count an accepted request has not responded: its sequencer stands at the respond step. -/
theorem runTicks_accepted_busy (p : Request) (s : State) :
    ∃ k t, requestTicks p = k + 1 ∧ runTicks k (accepted p s) = .next t ∧ t.mode = .busy := by
  unfold requestTicks accepted
  cases opOfCode p.op with
  | expand =>
    exact ⟨31, _, rfl, runTicks_of_runsIn (fun x => (acceptExpand p.key s).setKse x)
      (fun _ _ h => ⟨rfl, (tick_of_expand rfl).trans (kseStep_of_row h)⟩)
      (Kse.runs_to_respond (acceptExpand p.key s).opr s.kse), rfl⟩
  | chainA =>
    let a := acceptChainA (unpackSched p.sched) p.block p.n s
    exact ⟨2 + 22 * p.n, _, by simp only [chainATicks]; omega, runTicks_of_runsIn (fun x => a.setSeeA x)
      (fun _ _ h => ⟨rfl, (tick_of_chainA rfl).trans (seeAStep_of_row h)⟩)
      (SeeA.runs_to_respond a.opr s.seeA), rfl⟩
  | chainN =>
    let a := acceptChainN (unpackSched p.sched) p.block p.n s
    exact ⟨5 + 12 * p.n, _, by simp only [chainNTicks]; omega, runTicks_of_runsIn (fun x => a.setSeeN x)
      (fun _ _ h => ⟨rfl, (tick_of_chainN rfl).trans (seeNStep_of_row h)⟩)
      (SeeN.runs_to_respond a.opr s.seeN), rfl⟩
  | check =>
    obtain ⟨t, ht, hm, hop, hq⟩ := runTicks_acceptCheck_q1 (unpackSched p.sched) p.block p.n s
    obtain ⟨u, hu, hub⟩ := runTicks_q1_busy hm hop hq
    refine ⟨9 + 34 * p.n + 2, u, by simp only [checkTicks]; omega, ?_, hub⟩
    rw [runTicks_add, ht]
    exact hu

/-- A run that is BUSY at its end was BUSY all along. -/
theorem runTicks_busy_of_le {j k : Nat} {s u : State} (h : runTicks k s = .next u) (hu : u.mode = .busy)
    (hjk : j ≤ k) : ∃ t, runTicks j s = .next t ∧ t.mode = .busy := by
  obtain ⟨d, rfl⟩ := Nat.exists_eq_add_of_le hjk
  rw [runTicks_add, andThen_eq_next] at h
  obtain ⟨t, ht, hd⟩ := h
  refine ⟨t, ht, by_contra fun hm => ?_⟩
  cases (runTicks_of_not_busy hm d).symm.trans hd
  exact hm hu

/-- A sequencer step that stays in BUSY is no respond event. -/
theorem tick_free_of_busy {s t : State} (h : tick s = .next t) (hm : t.mode = .busy) : t.free = s.free := by
  rcases tick_cases h with hu | hr
  · rw [hu.frame]
  · cases hr <;> cases hm

/-- No respond event occurs in a run that is BUSY at its end. -/
theorem runTicks_free_of_busy {k : Nat} {s t : State} (h : runTicks k s = .next t) (hm : t.mode = .busy) :
    t.free = s.free := by
  induction k generalizing t with
  | zero => cases h; rfl
  | succ k ih =>
    obtain ⟨u, hu, hub⟩ := runTicks_busy_of_le h hm (Nat.le_succ k)
    rw [runTicks_add, hu, andThen_next, runTicks, if_pos hub, andThen_eq_next] at h
    obtain ⟨v, hv, hvt⟩ := h
    cases hvt
    exact (tick_free_of_busy hv hm).trans (ih hu hub)

/-! ## The run of one presented request (R248, R251) -/

theorem accepted_free (p : Request) (s : State) : (accepted p s).free = s.free := by
  unfold accepted
  cases opOfCode p.op <;> rfl

theorem responsesOf_decodeRequest (p : Request) : responsesOf (decodeRequest p) = 1 := by
  unfold decodeRequest
  cases opOfCode p.op <;> rfl

theorem opDone_status {i : Instr} (hi : i.isMicro = false) (s : State) : (opDone i s).rsp.status = 0 := by
  cases i with
  | expand | chainA | chainN | check | potA | potN | potCheck => rfl
  | _ => cases hi

/-- Presented alone, a request is accepted in the first step, and the others are its sequencer steps. -/
theorem run_present {s : State} (hm : s.mode = .ready) (p : Request) (k : Nat) :
    Host.Core.run core (1 + k) (s.setInputs [.present p]) = runTicks k (accepted p (s.setInputs [])) := by
  rw [Nat.add_comm, run_succ, step_present hm]
  exact run_eq_runTicks (accepted_inputs p _) k

/-- A request is BUSY, with no respond event, after its acceptance and after every step short of its step count. -/
theorem runTicks_accepted_of_lt {p : Request} {j : Nat} (hj : j < requestTicks p) (s : State) :
    ∃ t, runTicks j (accepted p s) = .next t ∧ t.mode = .busy ∧ t.free = s.free := by
  obtain ⟨k, u, hk, hu, hub⟩ := runTicks_accepted_busy p s
  obtain ⟨t, ht, htb⟩ := runTicks_busy_of_le hu hub (show j ≤ k by omega)
  exact ⟨t, ht, htb, (runTicks_free_of_busy ht htb).trans (accepted_free p s)⟩

/-- Still running, ended well and ended badly are conditions on the mode, so no two of them hold at once (R248). -/
theorem not_ended_of_busy {s : State} (hm : s.mode = .busy) : ¬ EndedWell s ∧ ¬ EndedBadly s := by
  simp [EndedWell, EndedBadly, hm]

theorem not_running_of_ready {s : State} (hm : s.mode = .ready) : ¬ StillRunning s ∧ ¬ EndedBadly s := by
  simp [StillRunning, EndedBadly, hm]

/-- Settles O19: short of the step count by `runTicks_accepted_of_lt`, at it by the state the operation ends in. -/
theorem requestRespondsAfterItsStepCount : Obligations.RequestRespondsAfterItsStepCount := by
  intro s p hm
  refine ⟨fun j hj => ?_, ?_⟩
  · obtain ⟨t, ht, hb, hfree⟩ := runTicks_accepted_of_lt hj (s.setInputs [])
    exact ⟨t, (run_present hm p j).trans ht, hb, hfree, hb, not_ended_of_busy hb⟩
  · have hi := decodeRequest_isMicro p
    have hready := opDone_mode hi (s.setInputs [])
    obtain ⟨-, hfree, -, -⟩ := opDone_ownFields hi (s.setInputs [])
    rw [responsesOf_decodeRequest] at hfree
    exact ⟨_, (run_present hm p _).trans (runTicks_accepted p _), hready, opDone_status hi _, hfree,
      (endedWell_opDone_iff hi _).2 rfl, not_running_of_ready hready⟩

/-! ## Reset (R240) -/

/-- In every mode the reset event is taken, and used up. -/
theorem step_of_reset {s : State} (h : nextEvent s = .reset) : step s = .next (resetEvent (dropEvent s)) := by
  cases hm : s.mode with
  | ready => rw [step_of_ready hm, h]; rfl
  | busy => rw [step_of_busy hm, h]; rfl
  | fatal => rw [step_of_fatal hm, h]; rfl

/-- Settles O1: the state after the reset event, field by field. -/
theorem resetLeavesReadyFromEveryMode : Obligations.ResetLeavesReadyFromEveryMode :=
  ⟨fun _ h => ⟨_, step_of_reset h, rfl, rfl, rfl, rfl, rfl, rfl, rfl, rfl, rfl⟩,
    rfl, rfl, rfl, rfl, rfl, rfl, rfl, rfl⟩

theorem ctlInv_reset : CtlInv State.reset :=
  (ctlInv_iff_of_ready rfl).2 ⟨rfl, rfl, rfl, rfl, rfl, nofun⟩

/-- Reset turns no request into one that has responded: it keeps the record outside BUSY, and in BUSY it abandons the
request (R240, R248). -/
theorem lastAfterReset_eq_responded_iff (s : State) (x : BitVec 1) :
    lastAfterReset s = .responded x ↔ s.mode ≠ .busy ∧ s.last = .responded x := by
  by_cases hm : s.mode = .busy
  · simp [lastAfterReset_of_busy hm, hm]
  · simp [lastAfterReset_of_not_busy hm, hm]

theorem endedWell_resetEvent_iff (s : State) :
    EndedWell (resetEvent s) ↔ s.mode ≠ .busy ∧ s.last = .responded 0 ∧ requestsLeft (resetEvent s) = false := by
  have hready : (resetEvent s).mode = .ready := rfl
  have hlast : (resetEvent s).last = lastAfterReset s := rfl
  rw [EndedWell, hlast, lastAfterReset_eq_responded_iff, and_assoc]
  exact and_iff_right hready

/-- Settles O2: in READY `Correct` asks for the control invariant only, and a reset event ends the run as
`endedWell_resetEvent_iff` says. -/
theorem resetStateIsCorrect : Obligations.ResetStateIsCorrect := by
  refine ⟨ctlInv_reset, correct_of_ready rfl ctlInv_reset, ?_, fun s t he ht => ?_⟩
  · rintro ⟨-, hlast, -⟩
    cases hlast
  · cases (step_of_reset he).symm.trans ht
    exact ⟨nofun, endedWell_resetEvent_iff (dropEvent s)⟩

end Sys2Proof.Machine
end

section
/-!
PROOFS. The image of a request in bytes: O10 (`30_encoding.md` section 2; the layout is the model's own, log entry 6).
-/

namespace Sys2Proof

open Sys2Proof.Machine

/-! ## Numbers and bytes -/

@[simp] theorem length_bytesOfNat (k x : Nat) : (bytesOfNat k x).length = k := by
  induction k generalizing x with
  | zero => rfl
  | succ k ih => simp [bytesOfNat, ih]

/-- The first `k` bytes of a number make up all of it below `256 ^ k`. -/
theorem natOfBytes_bytesOfNat (k x : Nat) : natOfBytes (bytesOfNat k x) = x % 256 ^ k := by
  induction k generalizing x with
  | zero => simp [bytesOfNat, natOfBytes, Nat.mod_one]
  | succ k ih => rw [Nat.pow_succ', Nat.mod_mul, bytesOfNat, natOfBytes, ih, BitVec.toNat_ofNat]

/-! ## A field at the low end of a number -/

/-- From bit `k` up lies what was put there, where the field below is no wider. -/
theorem toNat_add_two_pow_mul_shiftRight {n k : Nat} (hk : n ≤ k) (x : BitVec n) (y : Nat) :
    (x.toNat + 2 ^ k * y) >>> k = y := by
  have hx : x.toNat < 2 ^ k := Nat.lt_of_lt_of_le x.isLt (Nat.pow_le_pow_right (by decide) hk)
  rw [Nat.shiftRight_eq_div_pow, Nat.add_mul_div_left _ _ (Nat.two_pow_pos k), Nat.div_eq_of_lt hx, Nat.zero_add]

/-- The low bits read the field back, whatever lies from bit `k` up. -/
theorem ofNat_toNat_add_two_pow_mul {n k : Nat} (hk : n ≤ k) (x : BitVec n) (y : Nat) :
    BitVec.ofNat n (x.toNat + 2 ^ k * y) = x := by
  obtain ⟨d, rfl⟩ := Nat.exists_eq_add_of_le hk
  apply BitVec.eq_of_toNat_eq
  rw [BitVec.toNat_ofNat, Nat.pow_add, Nat.mul_assoc, Nat.add_mul_mod_self_left, Nat.mod_eq_of_lt x.isLt]

theorem lt_two_pow_add_of_shiftRight_lt {a b x : Nat} (h : x >>> a < 2 ^ b) : x < 2 ^ (a + b) := by
  rw [Nat.shiftRight_eq_div_pow, Nat.div_lt_iff_lt_mul (Nat.two_pow_pos a)] at h
  rwa [Nat.add_comm, Nat.pow_add]

/-! ## The ports in the number of a request (log entry 6) -/

/-- The ports lie one above the other: each next one is what the bits from its place up hold. -/
theorem natOfRequest_eq (p : Request) :
    natOfRequest p = p.op.toNat + 2 ^ 8 *
      (p.key.toNat + 2 ^ 128 * (p.sched.toNat + 2 ^ 1408 * (p.block.toNat + 2 ^ 128 * p.n))) := by
  simp only [natOfRequest, Nat.mul_add, ← Nat.mul_assoc, ← Nat.pow_add, Nat.add_assoc, Nat.reduceAdd]

theorem natOfRequest_shiftRight_key (p : Request) :
    natOfRequest p >>> 8 =
      p.key.toNat + 2 ^ 128 * (p.sched.toNat + 2 ^ 1408 * (p.block.toNat + 2 ^ 128 * p.n)) := by
  rw [natOfRequest_eq, toNat_add_two_pow_mul_shiftRight (by decide)]

theorem natOfRequest_shiftRight_sched (p : Request) :
    natOfRequest p >>> 136 = p.sched.toNat + 2 ^ 1408 * (p.block.toNat + 2 ^ 128 * p.n) := by
  rw [Nat.shiftRight_add _ 8 128, natOfRequest_shiftRight_key, toNat_add_two_pow_mul_shiftRight le_rfl]

theorem natOfRequest_shiftRight_block (p : Request) :
    natOfRequest p >>> 1544 = p.block.toNat + 2 ^ 128 * p.n := by
  rw [Nat.shiftRight_add _ 136 1408, natOfRequest_shiftRight_sched, toNat_add_two_pow_mul_shiftRight le_rfl]

theorem natOfRequest_shiftRight_n (p : Request) : natOfRequest p >>> 1672 = p.n := by
  rw [Nat.shiftRight_add _ 1544 128, natOfRequest_shiftRight_block, toNat_add_two_pow_mul_shiftRight le_rfl]

/-- Each port reads back what was put on it; the count where its port can express it (R245). -/
theorem requestOfNat_natOfRequest {w : Nat} {p : Request} (hn : p.n < 2 ^ w) :
    requestOfNat w (natOfRequest p) = p := by
  have hop : BitVec.ofNat 2 (natOfRequest p) = p.op := by
    rw [natOfRequest_eq, ofNat_toNat_add_two_pow_mul (by decide)]
  rw [requestOfNat, hop, natOfRequest_shiftRight_key, natOfRequest_shiftRight_sched, natOfRequest_shiftRight_block,
    natOfRequest_shiftRight_n, ofNat_toNat_add_two_pow_mul le_rfl, ofNat_toNat_add_two_pow_mul le_rfl,
    ofNat_toNat_add_two_pow_mul le_rfl, Nat.mod_eq_of_lt hn]

/-! ## The image in bytes -/

/-- A request whose count is expressible fits the bytes of its image. -/
theorem natOfRequest_lt {w : Nat} {p : Request} (hn : p.n < 2 ^ w) : natOfRequest p < 256 ^ requestBytes w := by
  have hbits : 1672 + w ≤ 8 * requestBytes w := by
    unfold requestBytes
    omega
  have hlt : natOfRequest p < 2 ^ (1672 + w) := lt_two_pow_add_of_shiftRight_lt (by rwa [natOfRequest_shiftRight_n])
  calc natOfRequest p < 2 ^ (1672 + w) := hlt
    _ ≤ 2 ^ (8 * requestBytes w) := Nat.pow_le_pow_right (by decide) hbits
    _ = 256 ^ requestBytes w := Nat.pow_mul 2 8 _

theorem natOfBytes_encodeBytes {w : Nat} {p : Request} (hn : p.n < 2 ^ w) :
    natOfBytes (encodeBytes w p) = natOfRequest p := by
  rw [encodeBytes, natOfBytes_bytesOfNat, Nat.mod_eq_of_lt (natOfRequest_lt hn)]

@[simp] theorem length_encodeBytes (w : Nat) (p : Request) : (encodeBytes w p).length = requestBytes w :=
  length_bytesOfNat _ _

theorem decodeBytes_of_lt {w : Nat} {bs : List Byte} (h : bs.length < requestBytes w) :
    decodeBytes w bs = .error .truncated := if_pos h

/-- The decoder takes as many bytes as a request has and leaves the rest. -/
theorem decodeBytes_append {w : Nat} {bs : List Byte} (h : bs.length = requestBytes w) (rest : List Byte) :
    decodeBytes w (bs ++ rest) = .ok (decodeRequest (requestOfNat w (natOfBytes bs)), rest) := by
  have hlong : ¬ (bs ++ rest).length < requestBytes w := by
    rw [List.length_append]
    omega
  rw [decodeBytes, if_neg hlong, List.take_left' h, List.drop_left' h]

/-- Settles O10: the image holds the request's number, and its ports read back from it. -/
theorem requestImageRoundTrip : Obligations.RequestImageRoundTrip := by
  refine ⟨fun w p rest hn => ?_, fun _ _ => decodeBytes_of_lt⟩
  rw [decodeBytes_append (length_encodeBytes w p), natOfBytes_encodeBytes hn, requestOfNat_natOfRequest hn]

end Sys2Proof
end
